-- ==== Sys2Proof/Word.lean ====
section
/-! DEFINITION. The word types of the S2 codec core (spec/00_scope.md R14) and their plainest conversions. -/

namespace Sys2Proof

/-- `u8` of R14. -/
abbrev Byte := BitVec 8

/-- `u32` of R14: the width of every register (R11, `REG_W`). -/
abbrev Word := BitVec 32

/-- `zext_32` of R18. -/
abbrev zext32 (b : Byte) : Word := b.setWidth 32

/-- Bits 7:0 of a word. -/
abbrev lowByte (w : Word) : Byte := w.setWidth 8

end Sys2Proof
end

