-- ==== Sys2Proof/Config.lean ====
section
/-! DEFINITION. What the spec leaves open: the parameters a model takes as arguments
(spec/00_scope.md R12, R13) and the free values (spec/93_implementation_defined.md). -/

namespace Sys2Proof

/-- `ENC_MODE` (R13): which contract `LZE` follows. The spec's default is `reference`. -/
inductive EncMode where
  | reference
  | relational
deriving DecidableEq, Repr

namespace Config

/-- The open parameters of R12 and R13. `regBase` is the window of the instance first in focus,
`peerBases` those of the other `N_INST - 1` instances. -/
structure Params where
  memSize : Nat
  regBase : Nat
  peerBases : List Nat
  encMode : EncMode
deriving DecidableEq, Repr

/-- The values `State.reset` takes: the platform of every program of spec/95_test_vectors.md section 3
(one instance, `MEM_SIZE = 0x10000`, the default `ENC_MODE`). DESIGN CHOICE, log 1: unsafe for a claim
about this one state, safe for a claim about every state, because the parameters are fields of it. -/
def Params.default : Params :=
  { memSize := 0x10000, regBase := 0, peerBases := [], encMode := .reference }

/-- R11, `REG_SPAN`: bytes of host address space a register window takes. -/
def regSpan : Nat := 0x40

/-- What a host read of `RESULT`, `OUT_LEN` or `PRNG_STATE` returns while `BUSY = 1` (R149, item I3).
A free value: safe, log 7. -/
opaque freeWord : Nat → Word

/-- What a byte of a discarded command's write range holds after a reset (R371, item I5).
A free value: safe, log 8. -/
opaque freeByte : Nat → Byte

/-- What an encoder proposes for an input under `ENC_MODE = relational` (R290, item I8); `LZE` takes it
when it meets the contract. A free value: safe, log 15. -/
opaque encoderChoice : Nat → List Byte → List Byte

end Config

end Sys2Proof
end

