-- ==== Sys2Proof/Syntax.lean ====
section
/-! DEFINITION. The commands of spec/opcode_table.json, the fields of a command word
(spec/30_encoding.md R101), the register names (spec/10_state.md section 3) and the moves of a
schedule (R114). -/

namespace Sys2Proof

/-- One constructor per row of the opcode table (R102, R115). No command has an operand field: every
operand comes from a register (R101, R107). -/
inductive Instr where
  | nop
  | crc32
  | seed
  | next
  | fill
  | keygenAdk
  | keygenAdkR
  | keygenDng
  | keygenDngR
  | obf
  | lzd
  | lze
deriving DecidableEq, Repr

/-- The two archive variants (R8); `GAME` selects the key constant (R106). -/
inductive Game where
  | adk
  | dng
deriving DecidableEq, Repr

/-- The raw fields of a command word (R101), before any check. -/
structure CommandFields where
  op : Byte
  rand : Bool
  game : Bool
  reserved : BitVec 22
deriving DecidableEq, Repr

/-- The registers of 10_state.md section 3, in the order of their offsets. -/
inductive RegName where
  | cmd
  | status
  | src
  | srcLen
  | dst
  | dstLen
  | key
  | arg
  | result
  | outLen
  | prngState
deriving DecidableEq, Repr

/-- One move of the host, of the platform or of a block. Register accesses carry the host address and
the width in bytes that the host uses (R74, R100); an instance is named by its `REG_BASE`, which alone
tells instances apart (R344). -/
inductive Move where
  /-- `WR`: the host writes a value at a host address. -/
  | writeReg (addr width : Nat) (v : Word)
  /-- `RD`: the host reads at a host address. -/
  | readReg (addr width : Nat)
  /-- `WAIT`: the host reads `STATUS` of the instance at `base` until `BUSY = 0`. -/
  | waitIdle (base : Nat)
  /-- `MEMW`: the host stores bytes to buffer memory from address `a`. -/
  | storeBytes (a : Nat) (bytes : List Byte)
  /-- The host loads one byte of buffer memory (R82, R88). -/
  | loadByte (a : Nat)
  /-- The platform resets the instance at `base` (R370). -/
  | resetInstance (base : Nat)
  /-- The block at `base` takes its enabled step, if it has one (R140). -/
  | blockMoves (base : Nat)
deriving DecidableEq, Repr

end Sys2Proof
end

