-- ==== Sys2Proof/WellFormed.lean ====
section
/-! DEFINITION. The checks on what can be written down: command-word fields (spec/30_encoding.md R101,
R104), platform parameters (spec/00_scope.md R12), and the moves of a host program (R114). -/

namespace Sys2Proof

/-- R104: a legal command word has a defined `OP`, zero reserved bits, and `RAND` or `GAME` only with
`OP = 0x05`. -/
def CommandFields.wellFormed (f : CommandFields) : Bool :=
  decide (f.op.toNat ≤ 0x08) && decide (f.reserved = 0) &&
    (decide (f.op = 0x05#8) || (!f.rand && !f.game))

/-- A command has no operand fields (R101), so every term of `Instr` is well formed. -/
def Instr.wellFormed : Instr → Bool
  | .nop => true
  | .crc32 => true
  | .seed => true
  | .next => true
  | .fill => true
  | .keygenAdk => true
  | .keygenAdkR => true
  | .keygenDng => true
  | .keygenDngR => true
  | .obf => true
  | .lzd => true
  | .lze => true

/-- R12: `1 ≤ MEM_SIZE ≤ 2^32`, every `REG_BASE` a multiple of 0x40, and no two instances at one base
(R344: they are told apart by `REG_BASE` alone). -/
def Config.Params.wellFormed (p : Config.Params) : Bool :=
  decide (1 ≤ p.memSize) && decide (p.memSize ≤ 2 ^ 32) &&
    (p.regBase :: p.peerBases).all (fun b => b % Config.regSpan == 0) &&
    decide (p.regBase :: p.peerBases).Nodup

/-- R74: a register access the interface supports is one aligned 32-bit word. The other moves carry
nothing to check. -/
def Move.wellFormed : Move → Bool
  | .writeReg addr width _ => width == 4 && addr % 4 == 0
  | .readReg addr width => width == 4 && addr % 4 == 0
  | .waitIdle _ => true
  | .storeBytes _ _ => true
  | .loadByte _ => true
  | .resetInstance _ => true
  | .blockMoves _ => true

end Sys2Proof
end

