-- ==== Sys2Proof/Decode.lean ====
section
/-! DEFINITION. The command decoder (spec/30_encoding.md R103) and, after it, the encoder written from
the field table (R101, R102). The opcode table numbers a word's bits as the spec does, bit 0 lowest. -/

namespace Sys2Proof

/-- Why a word is illegal: the three classes of R104. Each one completes with `ILLEGAL_CMD` (R331). -/
inductive DecodeError where
  /-- Raised by `decode`: `OP` is in 0x09..0xFF. -/
  | reservedOp
  /-- Raised by `decode`: a bit of 31:10 is set. -/
  | reservedBits
  /-- Raised by `decode`: bit 8 or bit 9 is set and `OP` is not 0x05. -/
  | strayFlag
deriving DecidableEq, Repr

/-- The fields of a word (R101). -/
def fieldsOfWord (w : Word) : CommandFields :=
  { op := w.setWidth 8
    rand := w.getLsbD 8
    game := w.getLsbD 9
    reserved := w.extractLsb' 10 22 }

/-- The name under which a word that selects no row is rejected (R104). -/
def illegalReason (w : Word) : DecodeError :=
  if (fieldsOfWord w).op.toNat > 0x08 then .reservedOp
  else if (fieldsOfWord w).reserved ≠ 0 then .reservedBits
  else .strayFlag

/-- R106: `RAND = w[8]`, `GAME = w[9]`. -/
def keygenRow (rand game : Bool) : Instr :=
  match game, rand with
  | false, false => .keygenAdk
  | false, true => .keygenAdkR
  | true, false => .keygenDng
  | true, true => .keygenDngR

/-- R103, in the order of its listing. -/
def decode (w : Word) : Except DecodeError Instr :=
  if w = 0x00000000#32 then .ok .nop
  else if w = 0x00000001#32 then .ok .crc32
  else if w = 0x00000002#32 then .ok .seed
  else if w = 0x00000003#32 then .ok .next
  else if w = 0x00000004#32 then .ok .fill
  else if w &&& 0xFFFFFCFF#32 = 0x00000005#32 then .ok (keygenRow (w.getLsbD 8) (w.getLsbD 9))
  else if w = 0x00000006#32 then .ok .obf
  else if w = 0x00000007#32 then .ok .lzd
  else if w = 0x00000008#32 then .ok .lze
  else .error (illegalReason w)

/-- The 32-bit word of four bytes, least significant first: the register window's byte order (R73). -/
def wordOfBytes (b0 b1 b2 b3 : Byte) : Word :=
  b0.setWidth 32 ||| (b1.setWidth 32 <<< 8) ||| (b2.setWidth 32 <<< 16) ||| (b3.setWidth 32 <<< 24)

/-- The command that the first four bytes stand for (R108: a command word is exactly 32 bits), with the
bytes after them; `none` where there are fewer than four bytes or the word is illegal. -/
def decodeBytes : List Byte → Option (Instr × List Byte)
  | b0 :: b1 :: b2 :: b3 :: rest =>
    match decode (wordOfBytes b0 b1 b2 b3) with
    | .ok i => some (i, rest)
    | .error _ => none
  | _ => none

/-- The `n` bytes of a number, least significant first. -/
def bytesOfNat : Nat → Nat → List Byte
  | 0, _ => []
  | n + 1, v => BitVec.ofNat 8 v :: bytesOfNat n (v / 256)

/-- The command the decoder reads from the table's `nbits` bits `w`, every higher bit zero. -/
def decodeTableWord (nbits w : Nat) : Option Instr :=
  (decodeBytes (bytesOfNat 4 (w % 2 ^ nbits))).map (·.1)

/-- The fields each command is written with (R101, R102, R106). -/
def encodeFields : Instr → CommandFields
  | .nop => ⟨0x00, false, false, 0⟩
  | .crc32 => ⟨0x01, false, false, 0⟩
  | .seed => ⟨0x02, false, false, 0⟩
  | .next => ⟨0x03, false, false, 0⟩
  | .fill => ⟨0x04, false, false, 0⟩
  | .keygenAdk => ⟨0x05, false, false, 0⟩
  | .keygenAdkR => ⟨0x05, true, false, 0⟩
  | .keygenDng => ⟨0x05, false, true, 0⟩
  | .keygenDngR => ⟨0x05, true, true, 0⟩
  | .obf => ⟨0x06, false, false, 0⟩
  | .lzd => ⟨0x07, false, false, 0⟩
  | .lze => ⟨0x08, false, false, 0⟩

/-- R101: the word with the given fields in their places. -/
def wordOfFields (f : CommandFields) : Word :=
  f.op.setWidth 32 ||| ((BitVec.ofBool f.rand).setWidth 32 <<< 8) |||
    ((BitVec.ofBool f.game).setWidth 32 <<< 9) ||| (f.reserved.setWidth 32 <<< 10)

/-- The command word of a command (R115). -/
def encode (i : Instr) : Word :=
  wordOfFields (encodeFields i)

end Sys2Proof
end

