-- ==== Sys2Proof/Machine/Constants.lean ====
section
/-! DEFINITION. The parameters the source fixes (spec/00_scope.md R10) and the constant tables that need
no computation (spec/10_state.md R48). The CRC tables are in Sys2Proof/Machine/Crc.lean. -/

namespace Sys2Proof.Machine

/-- `DICT_N`: LZSS ring size in bytes. -/
def dictN : Nat := 1024

/-- `DICT_FILL`: initial value of every ring byte. -/
def dictFill : Byte := 0x20

/-- `DICT_START`: initial write cursor of the ring. -/
def dictStart : Nat := 0x3F0

/-- `LZ_MIN`: shortest back-reference. -/
def lzMin : Nat := 3

/-- `LZ_WIRE_MAX`: longest back-reference of the wire format. -/
def lzWireMax : Nat := 18

/-- `LZ_ENC_MAX`: longest match the encoder searches for. -/
def lzEncMax : Nat := 16

/-- `LZ_LOOKAHEAD`: lookahead bytes of the encoder. -/
def lzLookahead : Nat := 16

/-- `LZ_PRIME`: positions the encoder primes its index with. -/
def lzPrime : Nat := 17

/-- `KEY_LEN`: key length in bytes. -/
def keyLen : Nat := 16

/-- `CRC_POLY`. -/
def crcPoly : Word := 0xEDB88320

/-- `CRC_INIT`. -/
def crcInit : Word := 0xFFFFFFFF

/-- `CRC_XOROUT`. -/
def crcXorOut : Word := 0xFFFFFFFF

/-- `PRNG_MULT`. -/
def prngMult : Word := 16807

/-- `PRNG_MOD`: 2^31 - 1. -/
def prngMod : Nat := 0x7FFFFFFF

/-- `SEED_B`: the ordered reserved bit positions. -/
def seedB : List Nat := [0x0C, 0x17, 0x0A, 0x19, 0x08, 0x1B, 0x06, 0x1D]

/-- The key constants of R220, byte 0 first. -/
def keyConst : Game → List Byte
  | .adk => [0xBD, 0x8C, 0xC2, 0xBD, 0x30, 0x67, 0x4B, 0xF8, 0xB4, 0x9B, 0x1B, 0xF9, 0xF6, 0x82, 0x2E, 0xF4]
  | .dng => [0xC9, 0x59, 0x46, 0xCA, 0xD9, 0xF0, 0x4F, 0x0A, 0xA1, 0x00, 0xAA, 0xB8, 0xCB, 0xE8, 0xDB, 0x6B]

end Sys2Proof.Machine
end

