-- ==== Sys2Proof/Machine/State.lean ====
section
/-! DEFINITION. The state of the platform: the registers of every block instance (spec/10_state.md), the
buffer memory they share (spec/20_memory.md), the parameters (spec/00_scope.md R12, R13), and the
model's own schedule, read data and draw counter. -/

namespace Sys2Proof.Machine

/-- The completion codes of R330. -/
inductive ErrCode where
  /-- Code 0, `NONE`. -/
  | none
  /-- Code 1, `ILLEGAL_CMD`. -/
  | illegalCmd
  /-- Code 2, `RANGE`. -/
  | range
  /-- Code 3, `OVERLAP`. -/
  | overlap
  /-- Code 4, `CAPACITY`. -/
  | capacity
  /-- Code 5, `SIZE_UNDER`. -/
  | sizeUnder
  /-- Code 6, `SIZE_OVER`. -/
  | sizeOver
deriving DecidableEq, Repr

/-- Buffer memory: (address, byte) pairs, addresses strictly rising, no pair equal to what an unlisted
address reads as (`Memory.Wf`, Sys2Proof/Machine/Memory.lean). -/
abbrev Memory := List Host.Cell

/-- One block instance (R30, R49): its register file, and the latched command of R46. The pending flag
is `STATUS.BUSY`, stored in `status` only. `PRNG_STATE` has bit 31 hard-wired to 0 (R44), so 31 bits are
stored. -/
structure Block where
  regBase : Nat
  cmd : Word
  status : Word
  src : Word
  srcLen : Word
  dst : Word
  dstLen : Word
  key : Word
  arg : Word
  result : Word
  outLen : Word
  prng : BitVec 31
  pending : Option Word
deriving DecidableEq, Repr

/-- The register file right after reset (R370). -/
def Block.reset (regBase : Nat) : Block :=
  { regBase := regBase
    cmd := 0, status := 0, src := 0, srcLen := 0, dst := 0, dstLen := 0, key := 0, arg := 0
    result := 0, outLen := 0, prng := 1, pending := none }

/-- The platform. `blk` is the instance in focus, the one a command's meaning acts on, and `peers` the
others (log 13). `script`, `rdata` and `draws` are the model's own: the moves still to be made (log 3),
the value the last host read returned (log 5), and how many free values have been drawn (log 6). -/
structure State where
  blk : Block
  peers : List Block
  mem : Memory
  memSize : Nat
  encMode : EncMode
  script : List Move
  rdata : Word
  draws : Nat
deriving DecidableEq, Repr

/-- The platform right after the reset of every instance (R344, R370), with the given parameters, and
buffer memory with nothing listed (log 2). -/
def State.resetWith (p : Config.Params) : State :=
  { blk := Block.reset p.regBase
    peers := p.peerBases.map Block.reset
    mem := []
    memSize := p.memSize
    encMode := p.encMode
    script := []
    rdata := 0
    draws := 0 }

/-- The machine right after reset (R370), with the parameter values of log 1. -/
def State.reset : State :=
  State.resetWith Config.Params.default

/-- Why a step stops with a fault. -/
inductive Fault where
  /-- Raised by a host store or load of a byte in an operand range of a pending command (R88, R375,
  item I6). Safe: the spec asks for this stop. -/
  | inFlightAccess
  /-- Raised by a host write of `CMD` whose command's ranges meet those of a command pending on another
  instance, where either writes (R89, R384, item I7). Safe: the spec asks for this stop. -/
  | instanceConflict
  /-- Raised by a host store or load at an address not below `MEM_SIZE` (R70). Safe: no such byte exists,
  log 11. -/
  | noSuchByte
deriving DecidableEq, Repr

/-- Why a step has no meaning. -/
inductive Refusal where
  /-- Raised by an arm of `exec` that has no meaning yet; there is none. Safe. -/
  | notModelled (mnemonic : String)
  /-- Raised by a host register access that is not one aligned 32-bit word (R74, item I4). Safe: the spec
  asks for it. -/
  | unsupportedAccess
  /-- Raised by a move that names a host address in no register window, or an instance that does not
  exist (R71, R80). Safe: the access is not to this hardware, log 9. -/
  | noSuchWindow
deriving DecidableEq, Repr

/-- What a step of this machine answers. -/
abbrev Result := Host.Outcome State Fault Refusal

end Sys2Proof.Machine
end

