-- ==== Sys2Proof/Machine/Flags.lean ====
section
/-! DEFINITION. The fields of `STATUS` (spec/10_state.md R35) and the words the block writes there
(spec/40_command.md R140, R142; spec/60_exceptions.md R333). The block has no other flags (R33). -/

namespace Sys2Proof.Machine

/-- The number a completion code is recorded as (R330). -/
def ErrCode.toByte : ErrCode → Byte
  | .none => 0
  | .illegalCmd => 1
  | .range => 2
  | .overlap => 3
  | .capacity => 4
  | .sizeUnder => 5
  | .sizeOver => 6

/-- `STATUS.BUSY`, bit 0. -/
def statusBusy (w : Word) : Bool := w.getLsbD 0

/-- `STATUS.DONE`, bit 1. -/
def statusDone (w : Word) : Bool := w.getLsbD 1

/-- `STATUS.ERR`, bit 2. -/
def statusErr (w : Word) : Bool := w.getLsbD 2

/-- `STATUS.ERRCODE`, bits 15:8. -/
def statusErrCode (w : Word) : Byte := w.extractLsb' 8 8

/-- After reset (R370). -/
def statusReset : Word := 0x00000000

/-- At acceptance: `BUSY = 1`, the rest 0 (R140). -/
def statusAccepted : Word := 0x00000001

/-- At successful completion: `DONE = 1`, the rest 0 (R142). -/
def statusSuccess : Word := 0x00000002

/-- At error completion: `DONE = 1`, `ERR = 1`, `ERRCODE = code` (R333). -/
def statusFailure (code : ErrCode) : Word :=
  0x00000006#32 ||| (code.toByte.setWidth 32 <<< 8)

/-- At the completion of a command with the given code (R142 for `NONE`, R333 for every other). -/
def statusCompleted : ErrCode → Word
  | .none => statusSuccess
  | .illegalCmd => statusFailure .illegalCmd
  | .range => statusFailure .range
  | .overlap => statusFailure .overlap
  | .capacity => statusFailure .capacity
  | .sizeUnder => statusFailure .sizeUnder
  | .sizeOver => statusFailure .sizeOver

/-- The command interface is busy: its pending flag is the bit `STATUS.BUSY` (R46). -/
def Block.busy (b : Block) : Bool := statusBusy b.status

end Sys2Proof.Machine
end

