-- ==== Sys2Proof/Machine/Memory.lean ====
section
/-! DEFINITION. Buffer memory (spec/20_memory.md R70, R77): one byte at a time, little-endian values
(spec/00_scope.md R17, 20_memory.md R72), and the canonical form of the list that holds it. -/

namespace Sys2Proof.Machine

/-- What an address that memory does not list reads as. DESIGN CHOICE, log 2: the spec leaves the
contents at power-up to the platform (R372, item I17); any contents are a list of cells over this. -/
def Memory.unlisted : Byte := 0x00

/-- The canonical form: addresses strictly rising, no cell equal to what an unlisted address reads as. -/
abbrev Memory.Wf (m : Memory) : Prop :=
  m.Pairwise (fun c d => c.1 < d.1) ∧ ∀ c ∈ m, c.2 ≠ Memory.unlisted

/-- The byte at an address. Reading has no side effect (R77). -/
def Memory.read : Memory → Nat → Byte
  | [], _ => Memory.unlisted
  | (b, u) :: m, a => if b = a then u else Memory.read m a

/-- A cell put in front of memory, unless an unlisted address already reads as its byte. -/
def Memory.put (a : Nat) (v : Byte) (m : Memory) : Memory :=
  if v = Memory.unlisted then m else (a, v) :: m

/-- Store one byte (R77), keeping the canonical form. -/
def Memory.write : Memory → Nat → Byte → Memory
  | [], a, v => Memory.put a v []
  | (b, u) :: m, a, v =>
    if a < b then Memory.put a v ((b, u) :: m)
    else if a = b then Memory.put a v m
    else (b, u) :: Memory.write m a v

/-- The `n` bytes from address `a` on, in address order. -/
def Memory.readBytes (m : Memory) : Nat → Nat → List Byte
  | _, 0 => []
  | a, n + 1 => m.read a :: Memory.readBytes m (a + 1) n

/-- Store bytes one at a time from address `a` on (R76). -/
def Memory.writeBytes : Memory → Nat → List Byte → Memory
  | m, _, [] => m
  | m, a, v :: vs => Memory.writeBytes (m.write a v) (a + 1) vs

/-- The value of bytes read least significant first (R17, R72). -/
def leValue : List Byte → Nat
  | [] => 0
  | b :: bs => b.toNat + 256 * leValue bs

/-- The `n` low bytes of a number, least significant first (R17). -/
def leBytes : Nat → Nat → List Byte
  | 0, _ => []
  | n + 1, v => BitVec.ofNat 8 v :: leBytes n (v / 256)

/-- `MemRead(a, n)` of R17. -/
def Memory.memRead (m : Memory) (a n : Nat) : Nat :=
  leValue (m.readBytes a n)

/-- `MemWrite(a, n, v)` of R17. -/
def Memory.memWrite (m : Memory) (a n v : Nat) : Memory :=
  m.writeBytes a (leBytes n v)

/-- The `n` bytes from `a` on that exist (below `size`) take free values, the `k`-th draw first (R371). -/
def Memory.havoc : Memory → Nat → Nat → Nat → Nat → Memory
  | m, _, 0, _, _ => m
  | m, a, n + 1, size, k =>
    if a < size then Memory.havoc (m.write a (Config.freeByte k)) (a + 1) n size (k + 1) else m

end Sys2Proof.Machine
end

