-- ==== Sys2Proof/Machine/Operands.lean ====
section
/-! DEFINITION. Operand ranges and the checks made on them before a command touches memory
(spec/20_memory.md R78, R79; spec/30_encoding.md R107; spec/40_command.md R144). Address arithmetic is on
unbounded naturals (spec/00_scope.md R15). -/

namespace Sys2Proof.Machine

/-- A pair (address, length) naming bytes of buffer memory, and whether the command writes it (R107). -/
structure OperandRange where
  addr : Nat
  len : Nat
  written : Bool
deriving DecidableEq, Repr

/-- R78: a range is valid when it is empty or ends at or below `MEM_SIZE`. -/
def OperandRange.valid (r : OperandRange) (memSize : Nat) : Bool :=
  if r.len = 0 then true else decide (r.addr + r.len ≤ memSize)

/-- R79: two ranges overlap when neither is empty and they share a byte. -/
def OperandRange.overlaps (r q : OperandRange) : Bool :=
  if r.len = 0 then false
  else if q.len = 0 then false
  else decide (r.addr < q.addr + q.len) && decide (q.addr < r.addr + r.len)

/-- The byte at address `a` is one of the range's. -/
def OperandRange.covers (r : OperandRange) (a : Nat) : Bool :=
  decide (r.addr ≤ a) && decide (a < r.addr + r.len)

/-- (`SRC`, `SRC_LEN`) read. -/
def Block.sourceRange (b : Block) : OperandRange :=
  { addr := b.src.toNat, len := b.srcLen.toNat, written := false }

/-- (`SRC`, `SRC_LEN`) read and written: the data range of `OBF`. -/
def Block.dataRange (b : Block) : OperandRange :=
  { addr := b.src.toNat, len := b.srcLen.toNat, written := true }

/-- (`DST`, `DST_LEN`) written. -/
def Block.destRange (b : Block) : OperandRange :=
  { addr := b.dst.toNat, len := b.dstLen.toNat, written := true }

/-- (`DST`, 16) written: where `KEYGEN` puts the key. -/
def Block.keyOutRange (b : Block) : OperandRange :=
  { addr := b.dst.toNat, len := keyLen, written := true }

/-- (`KEY`, 16) read: the key of `OBF`. -/
def Block.keyInRange (b : Block) : OperandRange :=
  { addr := b.key.toNat, len := keyLen, written := false }

/-- R107, third column: the ranges of a command in check order. -/
def operandRanges : Instr → Block → List OperandRange
  | .nop, _ => []
  | .crc32, b => [b.sourceRange]
  | .seed, _ => []
  | .next, _ => []
  | .fill, b => [b.destRange]
  | .keygenAdk, b => [b.keyOutRange]
  | .keygenAdkR, b => [b.sourceRange, b.keyOutRange]
  | .keygenDng, b => [b.keyOutRange]
  | .keygenDngR, b => [b.sourceRange, b.keyOutRange]
  | .obf, b => [b.dataRange, b.keyInRange]
  | .lzd, b => [b.sourceRange, b.destRange]
  | .lze, b => [b.sourceRange, b.destRange]

/-- R107, fourth column: the pairs of ranges that must not overlap. -/
def overlapPairs : Instr → Block → List (OperandRange × OperandRange)
  | .nop, _ => []
  | .crc32, _ => []
  | .seed, _ => []
  | .next, _ => []
  | .fill, _ => []
  | .keygenAdk, _ => []
  | .keygenAdkR, b => [(b.sourceRange, b.keyOutRange)]
  | .keygenDng, _ => []
  | .keygenDngR, b => [(b.sourceRange, b.keyOutRange)]
  | .obf, b => [(b.dataRange, b.keyInRange)]
  | .lzd, b => [(b.sourceRange, b.destRange)]
  | .lze, b => [(b.sourceRange, b.destRange)]

/-- `n + ceil(n / 8)`: the worst-case output of `LZE` on `n` bytes (R303, R305). -/
def worstCaseEncoded (n : Nat) : Nat :=
  n + (n + 7) / 8

/-- R144, stage 3: `LZE` alone needs `DST_LEN ≥ SRC_LEN + ceil(SRC_LEN / 8)` (R305). -/
def capacityMissing : Instr → Block → Bool
  | .lze, b => decide (b.dstLen.toNat < worstCaseEncoded b.srcLen.toNat)
  | .nop, _ => false
  | .crc32, _ => false
  | .seed, _ => false
  | .next, _ => false
  | .fill, _ => false
  | .keygenAdk, _ => false
  | .keygenAdkR, _ => false
  | .keygenDng, _ => false
  | .keygenDngR, _ => false
  | .obf, _ => false
  | .lzd, _ => false

/-- R144: the first failing operand check, in the order ranges, overlap pairs, capacity. -/
def operandError (i : Instr) (b : Block) (memSize : Nat) : Option ErrCode :=
  if (operandRanges i b).any (fun r => !r.valid memSize) then some .range
  else if (overlapPairs i b).any (fun p => p.1.overlaps p.2) then some .overlap
  else if capacityMissing i b then some .capacity
  else none

/-- R89, item I7: the ranges of two commands meet where at least one of them writes. -/
def rangesConflict (rs qs : List OperandRange) : Bool :=
  rs.any (fun r => qs.any (fun q => r.overlaps q && (r.written || q.written)))

end Sys2Proof.Machine
end

