-- ==== Sys2Proof/Machine/Ops.lean ====
section
/-! DEFINITION. The named operations over registers and memory that every meaning uses: the two
completions of a command (spec/40_command.md R142, spec/60_exceptions.md R333), its life cycle (R143,
R144), acceptance (R140), and the register file as the block and the host see it (spec/10_state.md). -/

namespace Sys2Proof.Machine

/-- Successful completion (R142). -/
def State.complete (s : State) : State :=
  { s with blk := { s.blk with status := statusSuccess, pending := none } }

/-- Error completion (R333): the one thing that happens on an error. Nothing is saved and no control is
transferred (R338); what the command wrote before stays (R334). There is no return from an error: the
next acceptance or a reset clears the code (R335). -/
def State.raiseError (s : State) (code : ErrCode) : State :=
  { s with blk := { s.blk with status := statusFailure code, pending := none } }

/-- Completion with a code, 0 for success (R330). -/
def State.finish (s : State) : ErrCode → State
  | .none => s.complete
  | .illegalCmd => s.raiseError .illegalCmd
  | .range => s.raiseError .range
  | .overlap => s.raiseError .overlap
  | .capacity => s.raiseError .capacity
  | .sizeUnder => s.raiseError .sizeUnder
  | .sizeOver => s.raiseError .sizeOver

/-- Stages 2 to 4 of `Execute` (R143): the operand checks of `i` (R144), then the operation, which
answers the state it leaves and the code it ends with, then the completion. -/
def State.runCommand (i : Instr) (s : State) (operation : State → State × ErrCode) : State :=
  match operandError i s.blk s.memSize with
  | some code => s.raiseError code
  | none => (operation s).1.finish (operation s).2

/-- `Reg.RESULT <- v`. -/
def State.setResult (s : State) (v : Word) : State :=
  { s with blk := { s.blk with result := v } }

/-- `Reg.OUT_LEN <- v`. -/
def State.setOutLen (s : State) (v : Word) : State :=
  { s with blk := { s.blk with outLen := v } }

/-- `Reg.PRNG_STATE <- v`: bit 31 is hard-wired to 0 (R44). -/
def State.setPrng (s : State) (v : Word) : State :=
  { s with blk := { s.blk with prng := v.setWidth 31 } }

/-- `PRNG_STATE` as it reads: bit 31 is 0 (R44). -/
def Block.prngWord (b : Block) : Word :=
  b.prng.setWidth 32

/-- Store bytes to buffer memory from an address on. -/
def State.storeBytes (s : State) (a : Nat) (bytes : List Byte) : State :=
  { s with mem := s.mem.writeBytes a bytes }

/-- The input bytes `in[0..SRC_LEN)` (R17). -/
def State.sourceBytes (s : State) : List Byte :=
  s.mem.readBytes s.blk.src.toNat s.blk.srcLen.toNat

/-- The 16 bytes at `KEY`. -/
def State.keyBytes (s : State) : List Byte :=
  s.mem.readBytes s.blk.key.toNat keyLen

/-- Acceptance (R140): the word is stored and latched and the instance is busy. -/
def Block.accept (b : Block) (w : Word) : Block :=
  { b with cmd := w, status := statusAccepted, pending := some w }

/-- The operand ranges of the command an instance has pending (R107); an illegal word has none (R331). -/
def Block.pendingRanges (b : Block) : List OperandRange :=
  match b.pending with
  | none => []
  | some w =>
    match decode w with
    | .ok i => operandRanges i b
    | .error _ => []

/-- What a host write stores in `PRNG_STATE`: `w & 0x7FFFFFFF`, or 1 where that is zero (R44). -/
def prngOfHostWrite (w : Word) : BitVec 31 :=
  if w.setWidth 31 = 0#31 then 1#31 else w.setWidth 31

/-- The offset of a register in its window (10_state.md section 3). -/
def registerOffset : RegName → Nat
  | .cmd => 0x00
  | .status => 0x04
  | .src => 0x08
  | .srcLen => 0x0C
  | .dst => 0x10
  | .dstLen => 0x14
  | .key => 0x18
  | .arg => 0x1C
  | .result => 0x20
  | .outLen => 0x24
  | .prngState => 0x28

/-- The register at a window offset; the offsets 0x2C to 0x3C are reserved (R45). -/
def registerAt (offset : Nat) : Option RegName :=
  [RegName.cmd, .status, .src, .srcLen, .dst, .dstLen, .key, .arg, .result, .outLen, .prngState].find?
    (fun r => registerOffset r == offset)

/-- The stored value of a register, as a read while idle returns it; a reserved offset reads 0 (R45). -/
def Block.readRegister (b : Block) : Option RegName → Word
  | some .cmd => b.cmd
  | some .status => b.status
  | some .src => b.src
  | some .srcLen => b.srcLen
  | some .dst => b.dst
  | some .dstLen => b.dstLen
  | some .key => b.key
  | some .arg => b.arg
  | some .result => b.result
  | some .outLen => b.outLen
  | some .prngState => b.prngWord
  | none => 0

/-- The effect of a host write while idle on the registers that are not `CMD` (R35 to R45): read-only
registers and reserved offsets ignore it. -/
def Block.writeRegister (b : Block) (v : Word) : Option RegName → Block
  | some .cmd => b
  | some .status => b
  | some .src => { b with src := v }
  | some .srcLen => { b with srcLen := v }
  | some .dst => { b with dst := v }
  | some .dstLen => { b with dstLen := v }
  | some .key => { b with key := v }
  | some .arg => { b with arg := v }
  | some .result => b
  | some .outLen => b
  | some .prngState => { b with prng := prngOfHostWrite v }
  | none => b

end Sys2Proof.Machine
end

