-- ==== Sys2Proof/Machine/Crc.lean ====
section
/-! DEFINITION. The CRC-32 engine (spec/41_crc32.md): the function (R160), its tables (R161, R162), the
slice-by-4 schedule (R163, R164), and the command `CRC32` (R166). -/

namespace Sys2Proof.Machine

/-- One bit step of the inner loop of R160. -/
def crcBit (c : Word) : Word :=
  if c.getLsbD 0 then (c >>> 1) ^^^ crcPoly else c >>> 1

/-- `n` bit steps; `step8` of R161 is `crcBits 8`. -/
def crcBits : Nat → Word → Word
  | 0, c => c
  | n + 1, c => crcBits n (crcBit c)

/-- One turn of the outer loop of R160. -/
def crcByte (c : Word) (b : Byte) : Word :=
  crcBits 8 (c ^^^ zext32 b)

/-- `CRC32(d)` of R160. -/
def crc32 (d : List Byte) : Word :=
  d.foldl crcByte crcInit ^^^ crcXorOut

/-- `T0[b]` (R161). -/
def crcT0 (b : Byte) : Word :=
  crcBits 8 (zext32 b)

/-- One zero-byte step `z` (R162). -/
def crcZero (c : Word) : Word :=
  crcT0 (lowByte c) ^^^ (c >>> 8)

/-- `T1[b]` (R162). -/
def crcT1 (b : Byte) : Word :=
  crcZero (crcT0 b)

/-- `T2[b]` (R162). -/
def crcT2 (b : Byte) : Word :=
  crcZero (crcT1 b)

/-- `T3[b]` (R162). -/
def crcT3 (b : Byte) : Word :=
  crcZero (crcT2 b)

/-- The slice-by-4 kernel (R163). -/
def crcSlice (r : Word) : Word :=
  crcT0 (lowByte (r >>> 24)) ^^^ crcT1 (lowByte (r >>> 16)) ^^^ crcT2 (lowByte (r >>> 8)) ^^^ crcT3 (lowByte r)

/-- The little-endian word of the first four bytes (R72). -/
def leadingWord (d : List Byte) : Word :=
  BitVec.ofNat 32 (leValue (d.take 4))

/-- The byte loop of R164. -/
def crcTailLoop : Word → List Byte → Word
  | r, [] => r
  | r, b :: d => crcTailLoop (crcT0 (lowByte (r ^^^ zext32 b)) ^^^ (r >>> 8)) d

/-- The word loop of R164, then the byte loop. The first argument bounds the turns. -/
def crcWordLoop : Nat → Word → List Byte → Word
  | 0, r, d => crcTailLoop r d
  | n + 1, r, d =>
    if 4 ≤ d.length then crcWordLoop n (crcSlice (r ^^^ leadingWord d)) (d.drop 4) else crcTailLoop r d

/-- The rounds of one block after its first word is folded in: `r <- slice(r) ^ w[k]` for each later
word, then one round without a word (R164). -/
def crcRounds : Nat → Word → List Byte → Word
  | 0, r, _ => crcSlice r
  | k + 1, r, d => crcRounds k (crcSlice r ^^^ leadingWord d) (d.drop 4)

/-- The block loop of R164, then the word loop. The first argument bounds the turns. -/
def crcBlockLoop : Nat → Word → List Byte → Word
  | 0, r, d => crcWordLoop d.length r d
  | n + 1, r, d =>
    if 32 ≤ d.length then crcBlockLoop n (crcRounds 7 (r ^^^ leadingWord d) (d.drop 4)) (d.drop 32)
    else crcWordLoop d.length r d

/-- The fast-path schedule (R164). R165: its result is `crc32`. -/
def crcFast (d : List Byte) : Word :=
  crcBlockLoop d.length crcInit d ^^^ crcXorOut

/-- `CRC32` (R166): `RESULT` gets the CRC of the input range. -/
def execCrc32 (s : State) : Host.Outcome State Fault Refusal :=
  .next (s.runCommand .crc32 fun s => (s.setResult (crc32 s.sourceBytes), .none))

end Sys2Proof.Machine
end

