-- ==== Sys2Proof/Machine/Prng.lean ====
section
/-! DEFINITION. The seed conditioner and the generator (spec/42_prng.md R190 to R195) and the commands
`SEED`, `NEXT` and `FILL` (R196 to R198). -/

namespace Sys2Proof.Machine

/-- `popcount(v[30:0])`. -/
def popcount31 (v : Word) : Nat :=
  (List.range 31).countP (fun i => v.getLsbD i)

/-- Set the listed bits, in order. -/
def setBits (s : Word) (bits : List Nat) : Word :=
  bits.foldl (fun s b => s ||| (1#32 <<< b)) s

/-- Clear the listed bits, in order. -/
def clearBits (s : Word) (bits : List Nat) : Word :=
  bits.foldl (fun s b => s &&& ~~~(1#32 <<< b)) s

/-- `condition(c)` (R190). Step 4 sets the first `8 - p` bits of `SEED_B`; step 5 clears its first
`32 - p`; both test the `p` of step 2. -/
def condition (c : Word) : Word :=
  let s := c &&& 0x7FFFFFFF#32
  let p := popcount31 s
  let s := if p < 8 then setBits s (seedB.take (8 - p)) else s
  let s := if p > 24 then clearBits s (seedB.take (32 - p)) else s
  if s = 0#32 then 1#32 else s &&& 0x7FFFFFFF#32

/-- The fold of a carry out of bit 31 into bit 0 (R192). -/
def foldCarry (t : Word) : Word :=
  if t > 0x7FFFFFFF#32 then (t &&& 0x7FFFFFFF#32) + 1#32 else t

/-- `next(s)` (R192), all arithmetic in u32. -/
def prngNext (s : Word) : Word :=
  let upper := s >>> 16
  let lower := s &&& 0xFFFF#32
  let u := upper * prngMult
  let l := lower * prngMult
  let t := foldCarry (l + ((u &&& 0x7FFF#32) <<< 16))
  foldCarry (t + (u >>> 15))

/-- The state of an instance `g` after `n` outputs. -/
def prngAfter : Nat → Word → Word
  | 0, g => g
  | n + 1, g => prngAfter n (prngNext g)

/-- `g.fill(n)` (R195): the low bytes of the next `n` outputs. The state it leaves is `prngAfter n g`. -/
def prngFill : Nat → Word → List Byte
  | 0, _ => []
  | n + 1, g => lowByte (prngNext g) :: prngFill n (prngNext g)

/-- `SEED` (R196): `PRNG_STATE` and `RESULT` get `condition(ARG)`. -/
def execSeed (s : State) : Host.Outcome State Fault Refusal :=
  .next (s.runCommand .seed fun s =>
    ((s.setPrng (condition s.blk.arg)).setResult (condition s.blk.arg), .none))

/-- `NEXT` (R197): `PRNG_STATE` and `RESULT` get `next(PRNG_STATE)`. -/
def execNext (s : State) : Host.Outcome State Fault Refusal :=
  .next (s.runCommand .next fun s =>
    ((s.setPrng (prngNext s.blk.prngWord)).setResult (prngNext s.blk.prngWord), .none))

/-- `FILL` (R198): `DST_LEN` low bytes of successive outputs go to `DST`, and `PRNG_STATE` gets the last
state. -/
def execFill (s : State) : Host.Outcome State Fault Refusal :=
  .next (s.runCommand .fill fun s =>
    ((s.storeBytes s.blk.dst.toNat (prngFill s.blk.dstLen.toNat s.blk.prngWord)).setPrng
      (prngAfter s.blk.dstLen.toNat s.blk.prngWord), .none))

end Sys2Proof.Machine
end

