-- ==== Sys2Proof/Machine/Keygen.lean ====
section
/-! DEFINITION. Key derivation (spec/43_keygen.md R220 to R223) and the four `KEYGEN` commands (R224). -/

namespace Sys2Proof.Machine

/-- `lower(b)` (R221): only ASCII letters fold. -/
def asciiLower (b : Byte) : Byte :=
  if 0x41#8 ≤ b ∧ b ≤ 0x5A#8 then b + 0x20#8 else b

/-- The generator instance of step 5 of R222, private to the command (R223). -/
def nameSeed (name : List Byte) : Word :=
  condition (crc32 (name.map asciiLower))

/-- `make_key(name, randomize, game)` (R222). -/
def makeKey (name : List Byte) (randomize : Bool) (game : Game) : List Byte :=
  if randomize then List.zipWith (· ^^^ ·) (keyConst game) (prngFill keyLen (nameSeed name))
  else keyConst game

/-- The last two statements of R224: the key goes to `DST` and `RESULT` gets its CRC. -/
def State.deliverKey (s : State) (key : List Byte) : State :=
  (s.storeBytes s.blk.dst.toNat key).setResult (crc32 key)

/-- `KEYGEN.ADK` (R224 with `RAND = 0`, `GAME = 0`): the name registers are ignored. -/
def execKeygenAdk (s : State) : Host.Outcome State Fault Refusal :=
  .next (s.runCommand .keygenAdk fun s => (s.deliverKey (makeKey [] false .adk), .none))

/-- `KEYGEN.ADK.R` (R224 with `RAND = 1`, `GAME = 0`). -/
def execKeygenAdkR (s : State) : Host.Outcome State Fault Refusal :=
  .next (s.runCommand .keygenAdkR fun s => (s.deliverKey (makeKey s.sourceBytes true .adk), .none))

/-- `KEYGEN.DNG` (R224 with `RAND = 0`, `GAME = 1`): the name registers are ignored. -/
def execKeygenDng (s : State) : Host.Outcome State Fault Refusal :=
  .next (s.runCommand .keygenDng fun s => (s.deliverKey (makeKey [] false .dng), .none))

/-- `KEYGEN.DNG.R` (R224 with `RAND = 1`, `GAME = 1`). -/
def execKeygenDngR (s : State) : Host.Outcome State Fault Refusal :=
  .next (s.runCommand .keygenDngR fun s => (s.deliverKey (makeKey s.sourceBytes true .dng), .none))

end Sys2Proof.Machine
end

