-- ==== Sys2Proof/Machine/Ring.lean ====
section
/-! DEFINITION. The 1024-byte ring of the LZSS decoder and encoder (spec/45_lzss_decode.md R261,
spec/46_lzss_encode.md R294), positions taken modulo `DICT_N`. It is held as a tree on the bits of a
position, a subtree of one repeated byte as one leaf; `Ring.read_write` (Laws) says it is an array. -/

namespace Sys2Proof.Machine

/-- The bytes of the ring, by the parity of their position, then of half their position, and so on. -/
inductive Ring where
  | leaf (b : Byte)
  | node (even odd : Ring)
deriving DecidableEq, Repr

/-- The byte at a position of a tree. -/
def Ring.getAt : Ring → Nat → Byte
  | .leaf b, _ => b
  | .node e o, p => if p % 2 = 0 then e.getAt (p / 2) else o.getAt (p / 2)

/-- The bytes at even positions. -/
def Ring.evens : Ring → Ring
  | .leaf b => .leaf b
  | .node e _ => e

/-- The bytes at odd positions. -/
def Ring.odds : Ring → Ring
  | .leaf b => .leaf b
  | .node _ o => o

/-- The tree of `2^depth` positions with the byte at `p` replaced. -/
def Ring.setAt : Nat → Ring → Nat → Byte → Ring
  | 0, _, _, v => .leaf v
  | d + 1, t, p, v =>
    if p % 2 = 0 then .node (Ring.setAt d t.evens (p / 2) v) t.odds
    else .node t.evens (Ring.setAt d t.odds (p / 2) v)

/-- The ring at the start of a command: every byte `DICT_FILL`. -/
def Ring.initial : Ring := .leaf dictFill

/-- `ring[p mod 1024]`. -/
def Ring.read (t : Ring) (p : Nat) : Byte :=
  t.getAt (p % dictN)

/-- `ring[p mod 1024] <- v`. -/
def Ring.write (t : Ring) (p : Nat) (v : Byte) : Ring :=
  Ring.setAt 10 t (p % dictN) v

end Sys2Proof.Machine
end

