-- ==== Sys2Proof/Machine/Lzd.lean ====
section
/-! DEFINITION. The LZSS decoder (spec/45_lzss_decode.md R260 to R268) and the command `LZD` (R269). -/

namespace Sys2Proof.Machine

/-- The decoder's scratch (R261). `rest` is the input from `ip` on; `out` holds the bytes emitted, the
last one first. -/
structure LzdScratch where
  ring : Ring
  r : Nat
  flags : BitVec 16
  rest : List Byte
  produced : Nat
  out : List Byte
deriving DecidableEq, Repr

/-- The state set at the start of every decode (R261). -/
def lzdStart (input : List Byte) : LzdScratch :=
  { ring := Ring.initial, r := dictStart, flags := 0, rest := input, produced := 0, out := [] }

/-- `emit(c)` (R266). An error is `SIZE_OVER`, raised before the write, with the scratch as it stands. -/
def lzdEmit (exp : Nat) (st : LzdScratch) (c : Byte) : Except LzdScratch LzdScratch :=
  if st.produced = exp then .error st
  else .ok { st with
    out := c :: st.out
    ring := st.ring.write st.r c
    r := (st.r + 1) % dictN
    produced := st.produced + 1 }

/-- The copy of a back-reference (R265): `len` bytes from ring position `off` on, each read before the
same step writes the ring. -/
def lzdCopy (exp : Nat) : Nat → Nat → LzdScratch → Except LzdScratch LzdScratch
  | 0, _, st => .ok st
  | len + 1, off, st =>
    match lzdEmit exp st (st.ring.read off) with
    | .ok st => lzdCopy exp len (off + 1) st
    | .error st => .error st

/-- `off` of a back-reference (R264). -/
def refOffset (b1 b2 : Byte) : Nat :=
  (zext32 b1 ||| ((zext32 b2 &&& 0xF0#32) <<< 4)).toNat

/-- `len` of a back-reference (R264). -/
def refLength (b2 : Byte) : Nat :=
  (b2 &&& 0x0F#8).toNat + lzMin

/-- The command register before an item (R262): shifted by one, and loaded with the next input byte when
its sentinel bit 8 is gone. `none` when that byte is missing (R267). -/
def lzdNextFlags (st : LzdScratch) : Option LzdScratch :=
  if (st.flags >>> 1).getLsbD 8 then some { st with flags := st.flags >>> 1 }
  else
    match st.rest with
    | [] => none
    | c :: rest => some { st with flags := c.setWidth 16 ||| 0xFF00#16, rest := rest }

/-- One item (R263 to R265), with the command register ready. `none` when an input byte it needs is
missing (R267): a back-reference without its second byte is discarded. -/
def lzdItem (exp : Nat) (st : LzdScratch) : Option (Except LzdScratch LzdScratch) :=
  if st.flags.getLsbD 0 then
    match st.rest with
    | [] => none
    | c :: rest => some (lzdEmit exp { st with rest := rest } c)
  else
    match st.rest with
    | b1 :: b2 :: rest => some (lzdCopy exp (refLength b2) (refOffset b1 b2) { st with rest := rest })
    | _ :: [] => none
    | [] => none

/-- The loop of the listing after R268. Each turn that goes on consumes an input byte, so the first
argument, the input's length, bounds the turns. -/
def lzdLoop (exp : Nat) : Nat → LzdScratch → Except LzdScratch LzdScratch
  | 0, st => .ok st
  | n + 1, st =>
    match lzdNextFlags st with
    | none => .ok st
    | some st =>
      match lzdItem exp st with
      | none => .ok st
      | some (.ok st) => lzdLoop exp n st
      | some (.error st) => .error st

/-- What a decode ends with: the bytes written, in order, and its code (R266, R268). -/
structure DecodeResult where
  bytes : List Byte
  code : ErrCode
deriving DecidableEq, Repr

/-- `lzss_decode(in, EXP)` (R260). -/
def lzssDecode (input : List Byte) (exp : Nat) : DecodeResult :=
  match lzdLoop exp input.length (lzdStart input) with
  | .error st => { bytes := st.out.reverse, code := .sizeOver }
  | .ok st => { bytes := st.out.reverse, code := if st.produced < exp then .sizeUnder else .none }

/-- `LZD` (R269): the bytes produced go to `DST` and their number to `OUT_LEN`, also on a size error. -/
def execLzd (s : State) : Host.Outcome State Fault Refusal :=
  .next (s.runCommand .lzd fun s =>
    let d := lzssDecode s.sourceBytes s.blk.dstLen.toNat
    ((s.storeBytes s.blk.dst.toNat d.bytes).setOutLen (BitVec.ofNat 32 d.bytes.length), d.code))

end Sys2Proof.Machine
end

