-- ==== Sys2Proof/Machine/Lze.lean ====
section
/-! DEFINITION. The LZSS encoder: the reference encoder (spec/46_lzss_encode.md R291 to R302), the
relational contract (R290), and the command `LZE` (R305). -/

namespace Sys2Proof.Machine

/-- One entry of the match index `I` (R295): a ring position and its insertion sequence number. -/
structure IndexEntry where
  pos : Nat
  seq : Nat
deriving DecidableEq, Repr

/-- The encoder's scratch (R291, R294). `rest` is the input from `q` on; `out` the bytes flushed. -/
structure LzeScratch where
  ring : Ring
  r : Nat
  s : Nat
  len : Nat
  rest : List Byte
  index : List IndexEntry
  ctr : Nat
  pkt : List Byte
  mask : Byte
  out : List Byte
deriving DecidableEq, Repr

/-- Bytes put in the ring from a position on. -/
def ringFill (t : Ring) : Nat → List Byte → Ring
  | _, [] => t
  | p, c :: cs => ringFill (t.write p c) (p + 1) cs

/-- The initial state (R294). -/
def lzeStart (input : List Byte) : LzeScratch :=
  { ring := ringFill Ring.initial dictStart (input.take lzLookahead)
    r := dictStart
    s := 0
    len := min lzLookahead input.length
    rest := input.drop lzLookahead
    index := []
    ctr := 0
    pkt := [0x00]
    mask := 0x01
    out := [] }

/-- `insert(p)` (R295). -/
def lzeInsert (st : LzeScratch) (p : Nat) : LzeScratch :=
  { st with
    index := { pos := p, seq := st.ctr } :: st.index.filter (fun e => e.pos != p)
    ctr := st.ctr + 1 }

/-- `delete(p)` (R295). -/
def lzeDelete (st : LzeScratch) (p : Nat) : LzeScratch :=
  { st with index := st.index.filter (fun e => e.pos != p) }

/-- Priming (R295): the positions `0x3F0 - 1` down to `0x3F0 - LZ_PRIME`. -/
def lzePrime (st : LzeScratch) : LzeScratch :=
  (List.range lzPrime).foldl (fun st i => lzeInsert st ((dictStart - (i + 1)) % dictN)) st

/-- `ℓ(p)` (R297): how many bytes from `p` on equal those from `r` on, up to a cap. -/
def matchLength (t : Ring) : Nat → Nat → Nat → Nat
  | 0, _, _ => 0
  | cap + 1, p, r => if t.read p = t.read r then matchLength t cap (p + 1) (r + 1) + 1 else 0

/-- A candidate of the search: a length, a position and its sequence number. -/
structure Match where
  length : Nat
  pos : Nat
  seq : Nat
deriving DecidableEq, Repr

/-- The better of the best match so far and a position of the index: longer, or as long and inserted
earlier (R298). -/
def betterMatch (t : Ring) (cap r : Nat) (best : Match) (e : IndexEntry) : Match :=
  let l := matchLength t cap e.pos r
  if best.length < l ∨ (l = best.length ∧ e.seq < best.seq) then
    { length := l, pos := e.pos, seq := e.seq }
  else best

/-- `(ML, MP)` (R298); the length is 0 when the index is empty. -/
def bestMatch (st : LzeScratch) : Match :=
  st.index.foldl (betterMatch st.ring (min lzEncMax st.len) st.r) { length := 0, pos := 0, seq := 0 }

/-- `flush()` (R292). -/
def lzeFlush (st : LzeScratch) : LzeScratch :=
  { st with out := st.out ++ st.pkt, pkt := [0x00], mask := 0x01 }

/-- What follows either append (R291): the mask moves on, and a full packet is flushed. -/
def lzeItemDone (st : LzeScratch) : LzeScratch :=
  let st := { st with mask := st.mask <<< 1 }
  if st.mask = 0#8 then lzeFlush st else st

/-- `append_literal(c)` (R291). -/
def appendLiteral (st : LzeScratch) (c : Byte) : LzeScratch :=
  lzeItemDone { st with pkt := st.pkt.modifyHead (· ||| st.mask) ++ [c] }

/-- The two bytes of a back-reference (R111, R291). -/
def refBytes (p l : Nat) : List Byte :=
  [BitVec.ofNat 8 (p &&& 0xFF), BitVec.ofNat 8 (((p >>> 4) &&& 0xF0) ||| (l - lzMin))]

/-- `append_ref(p, l)` (R291). -/
def appendRef (st : LzeScratch) (p l : Nat) : LzeScratch :=
  lzeItemDone { st with pkt := st.pkt ++ refBytes p l }

/-- The next input byte goes into the freed slot `s`, or the lookahead shrinks (R300). -/
def lzeRefill (st : LzeScratch) : LzeScratch :=
  match st.rest with
  | c :: rest => { st with ring := st.ring.write st.s c, rest := rest }
  | [] => { st with len := st.len - 1 }

/-- Advance the cursors `L` times (R300); `insert(r)` after every turn but the last, while lookahead is
left (R301). -/
def lzeAdvance : Nat → LzeScratch → LzeScratch
  | 0, st => st
  | k + 1, st =>
    let st := lzeRefill (lzeDelete st st.s)
    let st := { st with s := (st.s + 1) % dictN, r := (st.r + 1) % dictN }
    lzeAdvance k (if k ≠ 0 ∧ 0 < st.len then lzeInsert st st.r else st)

/-- One turn of the encoding loop (R299, R300): search, insert `r`, append one item, advance. -/
def lzeTurn (st : LzeScratch) : LzeScratch :=
  let best := bestMatch st
  let st := lzeInsert st st.r
  if best.length < lzMin then lzeAdvance 1 (appendLiteral st (st.ring.read st.r))
  else lzeAdvance best.length (appendRef st best.pos best.length)

/-- The loop of R302. Each turn codes at least one input byte, so the first argument, the input's
length, bounds the turns. -/
def lzeLoop : Nat → LzeScratch → LzeScratch
  | 0, st => st
  | n + 1, st => if 0 < st.len then lzeLoop n (lzeTurn st) else st

/-- Drain (R293): a packet that holds an item is flushed. -/
def lzeDrain (st : LzeScratch) : LzeScratch :=
  if 1 < st.pkt.length then lzeFlush st else st

/-- `lzss_encode(in)` of the reference encoder (R302). -/
def lzssEncode (input : List Byte) : List Byte :=
  if input.length = 0 then []
  else (lzeDrain (lzeLoop input.length (lzePrime (lzeStart input)))).out

/-- The items of a packet sequence (R109 to R112) from the middle of a packet on: `left` command bits are
unused, the next one lowest in `cmd`. Every packet but the last has eight items, the last one to eight
and zeros in its unused bits; a back-reference has offset 0..1023 and length 3..16 (R290 (b)). -/
def packetsWellFormed (cmd : Byte) (left : Nat) : List Byte → Bool
  | [] => decide (left < 8) && decide (cmd = 0#8)
  | x :: xs =>
    if left = 0 then packetsWellFormed x 8 xs
    else if cmd.getLsbD 0 then packetsWellFormed (cmd >>> 1) (left - 1) xs
    else
      match xs with
      | [] => false
      | y :: ys =>
        decide (refOffset x y < dictN) && decide (refLength y ≤ lzEncMax) &&
          packetsWellFormed (cmd >>> 1) (left - 1) ys

/-- The contract of R290, parts (a) to (d), between an input and an output. -/
def meetsContract (input output : List Byte) : Bool :=
  decide (lzssDecode output input.length = { bytes := input, code := .none }) &&
    packetsWellFormed 0 0 output &&
    decide (output.length ≤ worstCaseEncoded input.length) &&
    (decide (input.length ≠ 0) || decide (output = []))

/-- The output under `ENC_MODE = relational`: the free choice of the `k`-th draw where it meets the
contract, else the reference output. Every output the contract admits is some choice's. -/
def relationalEncode (k : Nat) (input : List Byte) : List Byte :=
  if meetsContract input (Config.encoderChoice k input) then Config.encoderChoice k input
  else lzssEncode input

/-- The output of `LZE` for the platform's `ENC_MODE` (R13, R290). -/
def State.encoded (s : State) (input : List Byte) : List Byte :=
  match s.encMode with
  | .reference => lzssEncode input
  | .relational => relationalEncode s.draws input

/-- A choice made under `ENC_MODE = relational` is one free draw. -/
def State.afterEncode (s : State) : State :=
  match s.encMode with
  | .reference => s
  | .relational => { s with draws := s.draws + 1 }

/-- `LZE` (R305): the encoded bytes go to `DST` and their number to `OUT_LEN`. -/
def execLze (s : State) : Host.Outcome State Fault Refusal :=
  .next (s.runCommand .lze fun s =>
    let e := s.encoded s.sourceBytes
    (((s.storeBytes s.blk.dst.toNat e).setOutLen (BitVec.ofNat 32 e.length)).afterEncode, .none))

end Sys2Proof.Machine
end

