-- ==== Sys2Proof/Machine/Nop.lean ====
section
/-! DEFINITION. `NOP` (spec/40_command.md R148). -/

namespace Sys2Proof.Machine

/-- `NOP` (R148): only `STATUS` changes. -/
def execNop (s : State) : Host.Outcome State Fault Refusal :=
  .next (s.runCommand .nop fun s => (s, .none))

end Sys2Proof.Machine
end

