-- ==== Sys2Proof/Machine/Obf.lean ====
section
/-! DEFINITION. The stream obfuscator (spec/44_obfuscate.md R240 to R243) and the command `OBF` (R246). -/

namespace Sys2Proof.Machine

/-- What the private generator of R240 yields for a key and a length, in the order drawn. -/
structure ObfDraws where
  pad1 : List Byte
  pad2 : List Byte
  start : Nat
  stride : Nat
deriving DecidableEq, Repr

/-- The draws of R240 for `n > 0`: `L1`, `pad1`, `L2`, `pad2`, `start`, `stride`. `L1` and `L2` are the
lengths of the pads. -/
def obfDraws (key : List Byte) (n : Nat) : ObfDraws :=
  let g := condition (crc32 key)
  let g := prngNext g
  let l1 := (g &&& 0x7F#32).toNat + 0x80
  let pad1 := prngFill l1 g
  let g := prngAfter l1 g
  let g := prngNext g
  let l2 := (g &&& 0x0F#32).toNat + 0x11
  let pad2 := prngFill l2 g
  let g := prngAfter l2 g
  let g := prngNext g
  let start := g.toNat % n
  let g := prngNext g
  let stride := (g &&& 0x1FFF#32).toNat + 0x2000
  { pad1 := pad1, pad2 := pad2, start := start, stride := stride }

/-- The XOR pass A applies at index `i` (R241). -/
def passAMask (d : ObfDraws) (i : Nat) : Byte :=
  d.pad1.getD (i % d.pad1.length) 0

/-- The entry of `pad2` that pass B uses at index `i`: `(key[i mod 16] ^ (i & 0xFF)) mod L2` (R242). -/
def passBIndex (d : ObfDraws) (key : List Byte) (i : Nat) : Nat :=
  (key.getD (i % keyLen) 0 ^^^ BitVec.ofNat 8 i).toNat % d.pad2.length

/-- Pass A (R241): every byte. -/
def passA (d : ObfDraws) (data : List Byte) : List Byte :=
  data.mapIdx (fun i b => b ^^^ passAMask d i)

/-- The loop of pass B (R240, R242): from index `i`, while it is below the length, in steps of
`stride`. The first argument bounds the turns. -/
def passBLoop (d : ObfDraws) (key : List Byte) : Nat → Nat → List Byte → List Byte
  | 0, _, data => data
  | n + 1, i, data =>
    if i < data.length then
      passBLoop d key n (i + d.stride)
        (data.set i (data.getD i 0 ^^^ d.pad2.getD (passBIndex d key i) 0))
    else data

/-- `obfuscate(data, key)` (R240); on no data it does nothing (R243). -/
def obfuscate (data key : List Byte) : List Byte :=
  if data.length = 0 then data
  else
    let d := obfDraws key data.length
    passBLoop d key data.length d.start (passA d data)

/-- `OBF` (R246): the data range is obfuscated in place with the key at `KEY`. -/
def execObf (s : State) : Host.Outcome State Fault Refusal :=
  .next (s.runCommand .obf fun s =>
    (s.storeBytes s.blk.src.toNat (obfuscate s.sourceBytes s.keyBytes), .none))

end Sys2Proof.Machine
end

