-- ==== Sys2Proof/Machine/Dispatch.lean ====
section
/-! DEFINITION. Stage 3 of `Execute` (spec/40_command.md R143): one arm per command of
spec/opcode_table.json, each one call of the command's meaning. -/

namespace Sys2Proof.Machine

def exec (i : Instr) (s : State) : Host.Outcome State Fault Refusal :=
  match i with
  | .nop => Sys2Proof.Machine.execNop s
  | .crc32 => Sys2Proof.Machine.execCrc32 s
  | .seed => Sys2Proof.Machine.execSeed s
  | .next => Sys2Proof.Machine.execNext s
  | .fill => Sys2Proof.Machine.execFill s
  | .keygenAdk => Sys2Proof.Machine.execKeygenAdk s
  | .keygenAdkR => Sys2Proof.Machine.execKeygenAdkR s
  | .keygenDng => Sys2Proof.Machine.execKeygenDng s
  | .keygenDngR => Sys2Proof.Machine.execKeygenDngR s
  | .obf => Sys2Proof.Machine.execObf s
  | .lzd => Sys2Proof.Machine.execLzd s
  | .lze => Sys2Proof.Machine.execLze s

end Sys2Proof.Machine
end

