-- ==== Sys2Proof/Machine/Platform.lean ====
section
/-! DEFINITION. What the host and the platform do to the machine between two steps of a block: register
accesses (spec/10_state.md, spec/40_command.md R140, R141, R149), accesses to buffer memory
(spec/20_memory.md R88), and the reset of an instance (spec/70_reset_and_hazards.md R370 to R372). -/

namespace Sys2Proof.Machine

/-- The first of some instances that a test picks, with the instance `b` put in its place. -/
def swapOut (pick : Block → Bool) (b : Block) : List Block → Option (Block × List Block)
  | [] => none
  | p :: ps =>
    if pick p then some (p, b :: ps)
    else (swapOut pick b ps).map (fun r => (r.1, p :: r.2))

/-- The instance that a test picks comes into focus (log 13): the one in focus if the test picks it,
else the first of the others, with which it changes places. Instances keep their `REG_BASE`. -/
def State.focus (s : State) (pick : Block → Bool) : Option State :=
  if pick s.blk then some s
  else (swapOut pick s.blk s.peers).map (fun r => { s with blk := r.1, peers := r.2 })

/-- The instance whose `REG_BASE` is `base` (R344). -/
def Block.isAt (base : Nat) (b : Block) : Bool :=
  b.regBase == base

/-- A host address is in the instance's register window (R71). -/
def Block.owns (addr : Nat) (b : Block) : Bool :=
  decide (b.regBase ≤ addr) && decide (addr < b.regBase + Config.regSpan)

/-- A command pending on the instance in focus may not meet one pending on another instance where either
writes (R89). -/
def State.conflict (s : State) : Bool :=
  s.peers.any (fun p => rangesConflict s.blk.pendingRanges p.pendingRanges)

/-- The host writes `w` to `CMD` of the instance in focus while it is idle (R34, R140). A model faults the
second acceptance on ranges that meet (R89, R384). -/
def State.writeCmd (s : State) (w : Word) : Result :=
  let t := { s with blk := s.blk.accept w }
  if t.conflict then .fault .instanceConflict else .next t

/-- The host writes a register of the instance in focus. While it is busy every write is ignored
(R141). -/
def State.hostWrite (s : State) (r : Option RegName) (v : Word) : Result :=
  if s.blk.busy then .next s
  else if r = some .cmd then s.writeCmd v
  else .next { s with blk := s.blk.writeRegister v r }

/-- What the host reads while the instance is busy in the registers whose value is then unspecified
(R149, item I3): a free value, with bit 31 of `PRNG_STATE` still 0. `none` for every other register. -/
def unspecifiedRead (k : Nat) : Option RegName → Option Word
  | some .result => some (Config.freeWord k)
  | some .outLen => some (Config.freeWord k)
  | some .prngState => some (Config.freeWord k &&& 0x7FFFFFFF#32)
  | some .cmd => none
  | some .status => none
  | some .src => none
  | some .srcLen => none
  | some .dst => none
  | some .dstLen => none
  | some .key => none
  | some .arg => none
  | none => none

/-- The host reads a register of the instance in focus (R149); the value goes to `rdata`. -/
def State.hostRead (s : State) (r : Option RegName) : State :=
  match s.blk.busy, unspecifiedRead s.draws r with
  | true, some v => { s with rdata := v, draws := s.draws + 1 }
  | _, _ => { s with rdata := s.blk.readRegister r }

/-- A register access is supported when it is one aligned 32-bit word (R74). -/
def accessSupported (base addr width : Nat) : Bool :=
  width == 4 && (addr - base) % 4 == 0

/-- The host's register write at a host address (R74, R100). -/
def State.writeAt (s : State) (addr width : Nat) (v : Word) : Result :=
  match s.focus (Block.owns addr) with
  | none => .refused .noSuchWindow
  | some t =>
    if accessSupported t.blk.regBase addr width then t.hostWrite (registerAt (addr - t.blk.regBase)) v
    else .refused .unsupportedAccess

/-- The host's register read at a host address (R74, R100). -/
def State.readAt (s : State) (addr width : Nat) : Result :=
  match s.focus (Block.owns addr) with
  | none => .refused .noSuchWindow
  | some t =>
    if accessSupported t.blk.regBase addr width then .next (t.hostRead (registerAt (addr - t.blk.regBase)))
    else .refused .unsupportedAccess

/-- Some instance has a pending command with an operand range that holds the byte at `a` (R88). -/
def State.inFlight (s : State) (a : Nat) : Bool :=
  (s.blk :: s.peers).any (fun b => b.pendingRanges.any (fun r => r.covers a))

/-- Why the host may not access the `n` bytes of buffer memory from `a` on: a byte does not exist (R70),
or a byte is in flight (R88, R375). -/
def State.memoryStop (s : State) (a n : Nat) : Option Fault :=
  if (List.range n).any (fun i => decide (s.memSize ≤ a + i)) then some .noSuchByte
  else if (List.range n).any (fun i => s.inFlight (a + i)) then some .inFlightAccess
  else none

/-- `MEMW` (R114): the host stores bytes. A store that stops changes nothing. -/
def State.hostStore (s : State) (a : Nat) (bytes : List Byte) : Result :=
  match s.memoryStop a bytes.length with
  | some f => .fault f
  | none => .next (s.storeBytes a bytes)

/-- The host loads one byte, which goes to `rdata`. -/
def State.hostLoad (s : State) (a : Nat) : Result :=
  match s.memoryStop a 1 with
  | some f => .fault f
  | none => .next { s with rdata := zext32 (s.mem.read a) }

/-- R371: every byte of a write range of the discarded command takes a free value. -/
def State.discardRange (s : State) (r : OperandRange) : State :=
  if r.written then
    { s with mem := s.mem.havoc r.addr r.len s.memSize s.draws, draws := s.draws + r.len }
  else s

/-- The instance in focus is reset (R370): its registers take their reset values, a pending command is
discarded (R371), and the rest of buffer memory keeps its bytes (R372). -/
def State.resetFocus (s : State) : State :=
  let t := s.blk.pendingRanges.foldl State.discardRange s
  { t with blk := Block.reset s.blk.regBase }

/-- The platform resets the instance at `base`. -/
def State.resetAt (s : State) (base : Nat) : Result :=
  match s.focus (Block.isAt base) with
  | none => .refused .noSuchWindow
  | some t => .next t.resetFocus

end Sys2Proof.Machine
end

