-- ==== Sys2Proof/Machine/Agents.lean ====
section
/-! DEFINITION. The block's step `Execute(pending)` (spec/40_command.md R140, R143), each move of a
schedule, and who moves next (log 3, log 4). -/

namespace Sys2Proof.Machine

/-- `Execute(w)` on the instance in focus (R143): decode, then the command; an illegal word raises
`ILLEGAL_CMD` (R331). -/
def State.execute (s : State) (w : Word) : Result :=
  match decode w with
  | .ok i => exec i s
  | .error _ => .next (s.raiseError .illegalCmd)

/-- The step of the block in focus: its one enabled step if a command is pending, else none (R140). -/
def State.blockStep (s : State) : Result :=
  match s.blk.pending with
  | some w => s.execute w
  | none => .next s

/-- The block at `base` moves. -/
def State.blockStepAt (s : State) (base : Nat) : Result :=
  match s.focus (Block.isAt base) with
  | none => .refused .noSuchWindow
  | some t => t.blockStep

/-- `WAIT` on the instance at `base` (R114). While it is busy the wait stays the schedule's next move and
the block takes its step (R382, log 4); when it is idle the host has read `STATUS` and goes on. -/
def State.waitAt (s : State) (base : Nat) : Result :=
  match s.focus (Block.isAt base) with
  | none => .refused .noSuchWindow
  | some t =>
    if t.blk.busy then { t with script := .waitIdle base :: t.script }.blockStep
    else .next (t.hostRead (some .status))

/-- One move of the schedule. -/
def State.move (s : State) : Move → Result
  | .writeReg addr width v => s.writeAt addr width v
  | .readReg addr width => s.readAt addr width
  | .waitIdle base => s.waitAt base
  | .storeBytes a bytes => s.hostStore a bytes
  | .loadByte a => s.hostLoad a
  | .resetInstance base => s.resetAt base
  | .blockMoves base => s.blockStepAt base

/-- An instance has a pending command. -/
def Block.isPending (b : Block) : Bool :=
  b.pending.isSome

/-- With an empty schedule a pending instance moves (R382); with none pending nothing does (R345,
R373). -/
def State.idleStep (s : State) : Result :=
  match s.focus Block.isPending with
  | some t => t.blockStep
  | none => .next s

/-- One step of the platform: the next move of the schedule, or a block's where it is empty. -/
def State.advance (s : State) : Result :=
  match s.script with
  | [] => s.idleStep
  | m :: rest => { s with script := rest }.move m

/-- The command word `w` accepted by the instance in focus (R140), and its block the next to move. -/
def State.commandPlaced (s : State) (w : Word) : State :=
  { s with
    blk := s.blk.accept w
    script := if s.script.isEmpty then [] else .blockMoves s.blk.regBase :: s.script }

end Sys2Proof.Machine
end

