-- ==== Sys2Proof/Machine/Step.lean ====
section
/-! DEFINITION. One step of the machine, and where its next command word stands. -/

namespace Sys2Proof.Machine

/-- One step: the schedule's next move, or the pending block's (spec/00_scope.md R3). -/
def step (s : State) : Host.Outcome State Fault Refusal :=
  s.advance

/-- `s` with the command word `w` accepted by the instance in focus, as after a host write of `CMD`
(spec/40_command.md R140), so that the next step is `Execute` of it. The block fetches nothing (R32), so
this stands for that write (log 3). -/
def State.withFetchWord (s : State) (nbits w : Nat) : State :=
  s.commandPlaced (BitVec.ofNat 32 (w % 2 ^ nbits))

end Sys2Proof.Machine
end

