-- ==== Sys2Proof/Machine/HostProgram.lean ====
section
/-! DEFINITION. Host programs (spec/30_encoding.md R114 to R116): statements as moves, `GO` and `RUN` as
lists of moves, and a program played on the machine. -/

namespace Sys2Proof.Machine

/-- `WR <reg>, <v>` on the instance at `base` (R114). -/
def wrStatement (base : Nat) (r : RegName) (v : Word) : Move :=
  .writeReg (base + registerOffset r) 4 v

/-- `RD <reg>` on the instance at `base` (R114). -/
def rdStatement (base : Nat) (r : RegName) : Move :=
  .readReg (base + registerOffset r) 4

/-- `GO <mnemonic>` (R116): `WR CMD, <word>` then `WAIT`. -/
def goStatement (base : Nat) (i : Instr) : List Move :=
  [wrStatement base .cmd (encode i), .waitIdle base]

/-- `RUN <mnemonic> R1=v1, ...` (R116): the register writes in the written order, then `GO`. -/
def runStatement (base : Nat) (i : Instr) (regs : List (RegName × Word)) : List Move :=
  regs.map (fun r => wrStatement base r.1 r.2) ++ goStatement base i

/-- A number of steps, stopping at the first fault or refusal. -/
def stepMany : Nat → State → Result
  | 0, s => .next s
  | n + 1, s =>
    match step s with
    | .next t => stepMany n t
    | .fault f => .fault f
    | .refused r => .refused r

/-- A program played to its end: each move takes one step, a `WAIT` that finds the block busy two. -/
def playProgram (program : List Move) (s : State) : Result :=
  stepMany (2 * program.length) { s with script := program }

/-- The state a step answers, if it answers one. -/
def nextState : Result → Option State
  | .next s => some s
  | .fault _ => none
  | .refused _ => none

end Sys2Proof.Machine
end

