-- ==== Sys2Proof/Machine/Archive.lean ====
section
/-! DEFINITION. Host software, not block commands (spec/00_scope.md R7): the archive header
(spec/30_encoding.md R120, R121; spec/60_exceptions.md R356), the file-name rules (R353 to R355), and the
decrypt and encrypt pipelines (R350, R351) as host programs over the machine. Log 20. -/

namespace Sys2Proof.Machine

/-- The five header fields (R120). -/
structure ArchiveHeader where
  magic : Word
  tag : Word
  payloadCrc : Word
  keyCrc : Word
  size : Word
deriving DecidableEq, Repr

/-- The header's length in bytes (R120). -/
def headerLen : Nat := 20

/-- R120: the magic constant. -/
def headerMagic : Word := 0x06091812

/-- R120: the type tag of a game, "sadk" or "rc00". -/
def gameTag : Game → Word
  | .adk => 0x6B646173
  | .dng => 0x30306372

/-- R355, decrypt: the game a tag selects; `none` is a format error (log 20). -/
def gameOfTag (tag : Word) : Option Game :=
  if tag = gameTag .adk then some .adk
  else if tag = gameTag .dng then some .dng
  else none

/-- The 20 bytes of a header (R356). -/
def emitHeader (h : ArchiveHeader) : List Byte :=
  leBytes 4 h.magic.toNat ++ leBytes 4 h.tag.toNat ++ leBytes 4 h.payloadCrc.toNat ++
    leBytes 4 h.keyCrc.toNat ++ leBytes 4 h.size.toNat

/-- The little-endian field at an offset (R356). -/
def headerField (a : List Byte) (offset : Nat) : Word :=
  BitVec.ofNat 32 (leValue ((a.drop offset).take 4))

/-- The header of an archive (R350 steps 1 and 2): `none` under 20 bytes, or with a wrong magic or an
unknown tag, is a format error (item I19). -/
def parseHeader (a : List Byte) : Option (ArchiveHeader × Game) :=
  if a.length < headerLen then none
  else
    let h : ArchiveHeader :=
      { magic := headerField a 0, tag := headerField a 4, payloadCrc := headerField a 8
        keyCrc := headerField a 12, size := headerField a 16 }
    if h.magic = headerMagic then (gameOfTag h.tag).map (fun g => (h, g)) else none

/-- A name cut at every byte that a test picks. -/
def cutAt (sep : Byte → Bool) : List Byte → List (List Byte)
  | [] => [[]]
  | c :: cs =>
    if sep c then [] :: cutAt sep cs
    else
      match cutAt sep cs with
      | w :: ws => (c :: w) :: ws
      | [] => [[c]]

/-- The file name without directories (R354). -/
def baseName (f : List Byte) : List Byte :=
  (cutAt (fun c => c = 0x2F#8 || c = 0x5C#8) f).getLastD []

/-- The parts of a base name between its dots. -/
def nameParts (f : List Byte) : List (List Byte) :=
  cutAt (fun c => c = 0x2E#8) (baseName f)

/-- Parts joined by dots. -/
def joinParts : List (List Byte) → List Byte
  | [] => []
  | [w] => w
  | w :: ws => w ++ 0x2E#8 :: joinParts ws

/-- A part is the extension named, letter case aside (R353, R355). -/
def isExtension (ext part : List Byte) : Bool :=
  part.map asciiLower = ext

/-- "s2m", "sav", "cmp", "adk", "dng" in ASCII. -/
def extS2m : List Byte := [0x73, 0x32, 0x6D]
def extSav : List Byte := [0x73, 0x61, 0x76]
def extCmp : List Byte := [0x63, 0x6D, 0x70]
def extAdk : List Byte := [0x61, 0x64, 0x6B]
def extDng : List Byte := [0x64, 0x6E, 0x67]

/-- `randomize` (R353): false when the text after the last dot is `s2m` or `sav`. -/
def randomizeOf (f : List Byte) : Bool :=
  match (nameParts f).reverse with
  | ext :: _ :: _ => !(isExtension extS2m ext || isExtension extSav ext)
  | _ => true

/-- The parts between the first and the last: the inner extensions. -/
def innerParts (f : List Byte) : List (List Byte) :=
  ((nameParts f).drop 1).dropLast

/-- A list without the last of its parts that a test picks. -/
def dropLastPicked (pick : List Byte → Bool) (parts : List (List Byte)) : List (List Byte) :=
  (parts.reverse.eraseP pick).reverse

/-- A base name with one marker removed (R354): of the inner extensions a test picks, the one nearest the
outer extension (log 20), so that `<stem>.<marker>.<ext>` gives `<stem>.<ext>` whatever the stem is. -/
def withoutMarker (pick : List Byte → Bool) (f : List Byte) : List Byte :=
  joinParts ((nameParts f).take 1 ++ dropLastPicked pick (innerParts f) ++
    ((nameParts f).drop 1).getLast?.toList)

/-- The key name on decrypt (R354): the `.cmp` marker is removed. -/
def decryptKeyName (f : List Byte) : List Byte :=
  withoutMarker (isExtension extCmp) f

/-- The key name on encrypt (R354): the inner `.adk` or `.dng` is removed. -/
def encryptKeyName (f : List Byte) : List Byte :=
  withoutMarker (fun w => isExtension extAdk w || isExtension extDng w) f

/-- The game on encrypt (R355): the inner extension `.adk` or `.dng`, among all the inner ones (log 20);
neither or both is `AmbiguousFileType`. -/
def gameOfName (f : List Byte) : Option Game :=
  match (innerParts f).any (isExtension extAdk), (innerParts f).any (isExtension extDng) with
  | true, false => some .adk
  | false, true => some .dng
  | true, true => none
  | false, false => none

/-- The `KEYGEN` command for a game and a randomization flag (R106). -/
def keygenCommand (game : Game) (randomize : Bool) : Instr :=
  keygenRow randomize (game == .dng)

/-- Where the host puts its buffers. R350 has the host place them so that no command raises `RANGE` or
`OVERLAP`; a layout here is not constrained, and what the pipelines answer for one that makes a command
raise is a DESIGN CHOICE, unsafe, log 23. That one buffer serves as the archive body and the payload, and one
as the output and the scratch, is log 24. -/
structure HostLayout where
  base : Nat
  nameAt : Word
  keyAt : Word
  inAt : Word
  outAt : Word
deriving DecidableEq, Repr

/-- The host's results of a decrypt (R350, R352); `stopped` when the machine itself stops. -/
inductive DecryptResult where
  | formatError
  | keyCrcMismatch
  | payloadSizeMismatch
  | payloadCrcMismatch (payload : List Byte)
  | success (payload : List Byte)
  | stopped
deriving DecidableEq, Repr

/-- The host's results of an encrypt (R351, R352). -/
inductive EncryptResult where
  | ambiguousFileType
  | archive (bytes : List Byte)
  | stopped
deriving DecidableEq, Repr

/-- A program played, then a register read: the value and the state after it. -/
def playAndRead (base : Nat) (program : List Move) (r : RegName) (s : State) : Option (Word × State) :=
  (nextState (playProgram (program ++ [rdStatement base r]) s)).map (fun t => (t.rdata, t))

/-- The host loads `n` bytes of buffer memory, one at a time. -/
def hostLoads : Nat → Nat → State → Option (List Byte × State)
  | _, 0, s => some ([], s)
  | a, n + 1, s =>
    (nextState (playProgram [.loadByte a] s)).bind (fun t =>
      (hostLoads (a + 1) n t).map (fun r => (lowByte t.rdata :: r.1, r.2)))

/-- `KEYGEN` over a key name stored at `nameAt` (R350 step 4, R351 step 2); `RESULT` is read. -/
def keygenProgram (l : HostLayout) (name : List Byte) (game : Game) (randomize : Bool) : List Move :=
  .storeBytes l.nameAt.toNat name ::
    runStatement l.base (keygenCommand game randomize)
      [(.src, l.nameAt), (.srcLen, BitVec.ofNat 32 name.length), (.dst, l.keyAt)]

/-- Decrypt, from step 5 of R350 on: the key CRC agrees. Of the codes of `LZD` only the two size errors are
looked at, and those of `OBF` and `CRC32` are not: with a layout that makes one raise `RANGE` or `OVERLAP`
the host goes on with what memory and `RESULT` then hold (DESIGN CHOICE, log 23). -/
def decryptBody (l : HostLayout) (body : List Byte) (h : ArchiveHeader) (s : State) : DecryptResult :=
  let n : Word := BitVec.ofNat 32 body.length
  let program := .storeBytes l.inAt.toNat body ::
    (runStatement l.base .obf [(.src, l.inAt), (.srcLen, n), (.key, l.keyAt)] ++
      runStatement l.base .lzd [(.src, l.inAt), (.srcLen, n), (.dst, l.outAt), (.dstLen, h.size)])
  match playAndRead l.base program .status s with
  | none => .stopped
  | some (status, t) =>
    if status = statusFailure .sizeUnder ∨ status = statusFailure .sizeOver then .payloadSizeMismatch
    else
      let check := runStatement l.base .crc32 [(.src, l.outAt), (.srcLen, h.size)]
      match playAndRead l.base check .result t with
      | none => .stopped
      | some (crc, u) =>
        match hostLoads l.outAt.toNat h.size.toNat u with
        | none => .stopped
        | some (payload, _) =>
          if crc = h.payloadCrc then .success payload else .payloadCrcMismatch payload

/-- Decrypt (R350) the archive `a` named `f`. `RESULT` after `KEYGEN` is compared whatever its code is
(DESIGN CHOICE, log 23). -/
def decryptArchive (l : HostLayout) (a f : List Byte) (s : State) : DecryptResult :=
  match parseHeader a with
  | none => .formatError
  | some (h, game) =>
    match playAndRead l.base (keygenProgram l (decryptKeyName f) game (randomizeOf f)) .result s with
    | none => .stopped
    | some (crc, t) =>
      if crc = h.keyCrc then decryptBody l (a.drop headerLen) h t else .keyCrcMismatch

/-- Encrypt, from step 3 of R351 on. No code is looked at: with a layout that makes a command raise, the
host goes on with what `RESULT`, `OUT_LEN` and memory then hold (DESIGN CHOICE, log 23). Step 4 allows
every `DST_LEN ≥ n + ceil(n/8)`; this host takes exactly `n + ceil(n/8)`, cut to 32 bits (DESIGN CHOICE,
log 24). -/
def encryptBody (l : HostLayout) (payload : List Byte) (game : Game) (keyCrc : Word) (s : State) :
    EncryptResult :=
  let n : Word := BitVec.ofNat 32 payload.length
  let capacity : Word := BitVec.ofNat 32 (worstCaseEncoded payload.length)
  let sum := .storeBytes l.inAt.toNat payload ::
    runStatement l.base .crc32 [(.src, l.inAt), (.srcLen, n)]
  let pack := runStatement l.base .lze [(.src, l.inAt), (.srcLen, n), (.dst, l.outAt), (.dstLen, capacity)]
  match playAndRead l.base sum .result s with
  | none => .stopped
  | some (payloadCrc, t) =>
    match playAndRead l.base pack .outLen t with
    | none => .stopped
    | some (c, u) =>
      let hide := runStatement l.base .obf [(.src, l.outAt), (.srcLen, c), (.key, l.keyAt)]
      match (nextState (playProgram hide u)).bind (hostLoads l.outAt.toNat c.toNat) with
      | none => .stopped
      | some (body, _) =>
        let h : ArchiveHeader :=
          { magic := headerMagic, tag := gameTag game, payloadCrc := payloadCrc, keyCrc := keyCrc, size := n }
        .archive (emitHeader h ++ body)

/-- Encrypt (R351) the payload with the source file name `f`. `RESULT` after `KEYGEN` is taken whatever its
code is (DESIGN CHOICE, log 23). -/
def encryptArchive (l : HostLayout) (payload f : List Byte) (s : State) : EncryptResult :=
  match gameOfName f with
  | none => .ambiguousFileType
  | some game =>
    match playAndRead l.base (keygenProgram l (encryptKeyName f) game (randomizeOf f)) .result s with
    | none => .stopped
    | some (keyCrc, t) => encryptBody l payload game keyCrc t

end Sys2Proof.Machine
end

