-- ==== Sys2Proof/Safety.lean ====
section
/-! DEFINITION. The terms claims are stated in: valid and disjoint operand ranges, what a legal instance
and a legal memory look like, exclusive ranges of pending commands, and what counts as a safe run. -/

namespace Sys2Proof.Machine

/-- R78 in the spec's words: the range (a, n) is valid. -/
abbrev RangeOk (a n memSize : Nat) : Prop :=
  n = 0 ∨ a + n ≤ memSize

/-- R79 in the spec's words, negated: the ranges (a, n) and (b, m) share no byte. -/
abbrev RangesApart (a n b m : Nat) : Prop :=
  ¬(0 < n ∧ 0 < m ∧ a < b + m ∧ b < a + n)

/-- The address `x` is none of the `n` bytes from `a` on. -/
abbrev OutsideBytes (a n x : Nat) : Prop :=
  x < a ∨ a + n ≤ x

/-- The values `STATUS` has while no command is pending: after reset, after success, and after each error
(R35, R330). -/
def idleStatuses : List Word :=
  [0x00000000, 0x00000002, 0x00000106, 0x00000206, 0x00000306, 0x00000406, 0x00000506, 0x00000606]

/-- R34, R35, R46: with a command pending, `STATUS` is 0x00000001 and `CMD` holds its word; else `STATUS`
is one of its idle values. -/
def Block.statusLegal (b : Block) : Bool :=
  match b.pending with
  | some w => b.status == statusAccepted && b.cmd == w
  | none => idleStatuses.contains b.status

/-- A legal instance: its status, a seed that is not the forbidden 0 (R44), and an aligned window
(R12). -/
def Block.legal (b : Block) : Bool :=
  b.statusLegal && b.prng != 0#31 && b.regBase % Config.regSpan == 0

/-- Every instance of the platform, the one in focus first. -/
def State.instances (s : State) : List Block :=
  s.blk :: s.peers

/-- The windows of the platform's instances. -/
def State.windows (s : State) : List Nat :=
  s.instances.map (·.regBase)

/-- Every instance is legal and no two share a window (R344). -/
abbrev State.RegistersLegal (s : State) : Prop :=
  (∀ b ∈ s.instances, b.legal = true) ∧ s.windows.Nodup

/-- Buffer memory is in its canonical form and lists only bytes that exist (R70), and `MEM_SIZE` is in
the range of R12. -/
abbrev State.MemoryLegal (s : State) : Prop :=
  s.mem.Wf ∧ (∀ c ∈ s.mem, c.1 < s.memSize) ∧ 1 ≤ s.memSize ∧ s.memSize ≤ 2 ^ 32

/-- R89: no two pending commands have ranges that meet where either writes. -/
abbrev State.Exclusive (s : State) : Prop :=
  s.instances.Pairwise (fun b c => rangesConflict b.pendingRanges c.pendingRanges = false)

/-- The step goes on: it neither faults nor is refused. -/
abbrev StepCompletes (s : State) : Prop :=
  ∃ t, step s = .next t

/-- A safe run: `n` steps from `s`, none of which stops. -/
abbrev SafeRun (n : Nat) (s : State) : Prop :=
  (nextState (stepMany n s)).isSome = true

/-- The state after a command that raised `code` before writing anything: only `STATUS` and the pending
flag and word differ (R145). -/
def State.failed (s : State) (code : ErrCode) : State :=
  { s with blk := { s.blk with status := 0x00000006#32 ||| (code.toByte.setWidth 32 <<< 8), pending := none } }

end Sys2Proof.Machine
end

