-- ==== Sys2Proof/Certificates/Slice0/Obligations.lean ====
section
/-! DEFINITION. The statements for the provers. Each docstring names the rules of spec/ it formalises.
Every statement is for every state, whatever `MEM_SIZE`, the windows and `ENC_MODE` are: they are fields
of it (log 1). -/

open Sys2Proof Sys2Proof.Machine

/-! ### Encoding -/

/-- R101, R103, R115: every command's word decodes to it. -/
def Obligations.EncodedCommandsDecode : Prop :=
  ∀ i : Instr, i.wellFormed = true → decode (encode i) = .ok i ∧ decodeTableWord 32 (encode i).toNat = some i

/-- R103: a word selects a command exactly when it is that command's word, and the words are those of the
opcode table. -/
def Obligations.WordSelectsAtMostOneRow : Prop :=
  (∀ (w : Word) (i : Instr), decode w = .ok i ↔ w = encode i) ∧
    [Instr.nop, .crc32, .seed, .next, .fill, .keygenAdk, .keygenAdkR, .keygenDng, .keygenDngR, .obf, .lzd,
      .lze].map encode =
      [0x000, 0x001, 0x002, 0x003, 0x004, 0x005, 0x105, 0x205, 0x305, 0x006, 0x007, 0x008]

/-- R331 (and R104): the illegal words, and what executing one does. -/
def Obligations.IllegalWordsOnlyComplete : Prop :=
  (∀ w : Word, (∃ e, decode w = .error e) ↔
    (0x09 ≤ w.toNat % 2 ^ 8 ∨ w.toNat / 2 ^ 10 ≠ 0 ∨
      ((w.getLsbD 8 = true ∨ w.getLsbD 9 = true) ∧ w.toNat % 2 ^ 8 ≠ 0x05))) ∧
  (∀ (s : State) (w : Word) (e : DecodeError), decode w = .error e →
    s.execute w = .next (s.failed .illegalCmd))

/-- R101, R102: words written out bit by bit decode to what they stand for. -/
def Obligations.WrittenOutWordsDecode : Prop :=
  decodeTableWord 32 0b00000000000000000000000000000000 = some .nop ∧
  decodeTableWord 32 0b00000000000000000000000000000001 = some .crc32 ∧
  decodeTableWord 32 0b00000000000000000000000000000100 = some .fill ∧
  decodeTableWord 32 0b00000000000000000000000100000101 = some .keygenAdkR ∧
  decodeTableWord 32 0b00000000000000000000001000000101 = some .keygenDng ∧
  decodeTableWord 32 0b00000000000000000000000000000110 = some .obf ∧
  decodeTableWord 32 0b00000000000000000000000000000111 = some .lzd ∧
  decodeTableWord 32 0b00000000000000000000000000001000 = some .lze ∧
  decodeTableWord 32 0b00000000000000000000000000001001 = none ∧
  decodeTableWord 32 0b00000000000000000000010000000101 = none ∧
  decodeTableWord 32 0b00000000000000000000000100000001 = none

/-! ### The step -/

/-- The schedule is the model's choice (log 3): a step makes its next move, and the rest is left. -/
def Obligations.StepMakesTheNextMove : Prop :=
  ∀ (s : State) (m : Move) (rest : List Move), s.script = m :: rest →
    let t : State := { s with script := rest }
    step s = match m with
      | .writeReg addr width v => t.writeAt addr width v
      | .readReg addr width => t.readAt addr width
      | .waitIdle base => t.waitAt base
      | .storeBytes a bytes => t.hostStore a bytes
      | .loadByte a => t.hostLoad a
      | .resetInstance base => t.resetAt base
      | .blockMoves base => t.blockStepAt base

/-- R140, R143: the step of the machine runs the command that the latched word decodes to: with no move
left, when the schedule lets the block move, and when the host waits (the schedule is the model's choice,
log 3 and log 4). The block has no program counter
(R32) and nothing is moved past. -/
def Obligations.StepRunsTheDecodedCommand : Prop :=
  ∀ (s : State) (w : Word) (i : Instr), i.wellFormed = true → s.blk.pending = some w → decode w = .ok i →
    (s.script = [] → step s = exec i s) ∧
    (∀ rest, s.script = .blockMoves s.blk.regBase :: rest → step s = exec i { s with script := rest }) ∧
    (∀ rest, s.script = .waitIdle s.blk.regBase :: rest → s.blk.busy = true → step s = exec i s)

/-- R140, R344: the same for an instance that is not in focus: it comes into focus, no instance is lost
or changed by that, and its command runs. That the schedule says which block moves next is the model's
DESIGN CHOICE (log 3), and so is the instance in focus and its exchange with the one named (log 13); R140
and R344 give only the pending command's step and the instance found by `REG_BASE`. -/
def Obligations.StepRunsTheCommandOfAnyInstance : Prop :=
  ∀ (s t : State) (base : Nat) (rest : List Move) (w : Word) (i : Instr),
    s.script = .blockMoves base :: rest →
    ({ s with script := rest } : State).focus (Block.isAt base) = some t →
    t.blk.pending = some w → decode w = .ok i →
    step s = exec i t ∧ t.blk.regBase = base ∧ t.instances.Perm s.instances ∧ t.mem = s.mem ∧ t.script = rest

/-! ### The commands: what each does where its checks pass, and the error where one fails -/

/-- R148: `NOP` changes `STATUS` only; its word is 0; a word with `OP = 0x00` and another bit set is
illegal; and the worked example. -/
def Obligations.NopChangesStatusOnly : Prop :=
  decode 0x00000000#32 = .ok .nop ∧
  (∀ s : State, exec .nop s = .next { s with blk := { s.blk with status := 0x00000002, pending := none } }) ∧
  (∀ w : Word, w.toNat % 2 ^ 8 = 0 → w ≠ 0 → ∃ e, decode w = .error e) ∧
  (State.reset.blk.cmd = 0 ∧ statusDone State.reset.blk.status = false) ∧
  (∃ t, playProgram (goStatement 0 .nop) State.reset = .next t ∧ t.blk.status = 0x00000002)

/-- R166: `CRC32` over a valid range, and over a range past `MEM_SIZE`. -/
def Obligations.Crc32WritesResult : Prop :=
  ∀ s : State,
    (RangeOk s.blk.src.toNat s.blk.srcLen.toNat s.memSize →
      exec .crc32 s = .next { s with blk := { s.blk with
        result := crc32 (s.mem.readBytes s.blk.src.toNat s.blk.srcLen.toNat)
        status := 0x00000002, pending := none } }) ∧
    (¬ RangeOk s.blk.src.toNat s.blk.srcLen.toNat s.memSize → exec .crc32 s = .next (s.failed .range)) ∧
    (s.blk.srcLen = 0 → exec .crc32 s = .next { s with blk := { s.blk with
      result := 0x00000000, status := 0x00000002, pending := none } })

/-- R196: `SEED`, its corner cases and its worked example. `PRNG_STATE` reads as the conditioned seed. -/
def Obligations.SeedConditionsArg : Prop :=
  decode 0x00000002#32 = .ok .seed ∧
  (∀ s : State, ∃ t, exec .seed s = .next t ∧
    t = { s with blk := { s.blk with
      prng := t.blk.prng, result := condition s.blk.arg, status := 0x00000002, pending := none } } ∧
    t.blk.prngWord = condition s.blk.arg) ∧
  (∀ c : Word, 8 ≤ popcount31 c → popcount31 c ≤ 24 → condition c = c &&& 0x7FFFFFFF#32) ∧
  condition 0x00000000 = 0x2A801540 ∧ condition 0x80000000 = 0x2A801540 ∧
  condition 0xFFFFFFFF = 0x7FFFEFFF ∧ condition 0xCBF43926 = 0x4BF43926

/-- R197: `NEXT`. `PRNG_STATE` and `RESULT` read as the next output of the state held. -/
def Obligations.NextStepsTheGenerator : Prop :=
  ∀ s : State, ∃ t, exec .next s = .next t ∧
    t = { s with blk := { s.blk with
      prng := t.blk.prng, result := prngNext s.blk.prngWord, status := 0x00000002, pending := none } } ∧
    t.blk.prngWord = prngNext s.blk.prngWord

/-- R198: `FILL` over a valid range, over a range past `MEM_SIZE`, over no byte, and its worked example.
`PRNG_STATE` reads as the last state drawn. -/
def Obligations.FillWritesOutputBytes : Prop :=
  decode 0x00000004#32 = .ok .fill ∧
  (∀ s : State,
    (RangeOk s.blk.dst.toNat s.blk.dstLen.toNat s.memSize → ∃ t, exec .fill s = .next t ∧
      t = { s with
        mem := s.mem.writeBytes s.blk.dst.toNat (prngFill s.blk.dstLen.toNat s.blk.prngWord)
        blk := { s.blk with prng := t.blk.prng, status := 0x00000002, pending := none } } ∧
      t.blk.prngWord = prngAfter s.blk.dstLen.toNat s.blk.prngWord) ∧
    (¬ RangeOk s.blk.dst.toNat s.blk.dstLen.toNat s.memSize → exec .fill s = .next (s.failed .range)) ∧
    (s.blk.dstLen = 0 → exec .fill s = .next { s with blk := { s.blk with
      status := 0x00000002, pending := none } })) ∧
  prngFill 4 0x00000001 = [0xA7, 0xF1, 0xD9, 0x2A] ∧ prngAfter 4 0x00000001 = 0x3AB50C2A

/-- R224 with `RAND = 0`: the constant key and its CRC, whatever `SRC` and `SRC_LEN` hold. -/
def Obligations.KeygenConstantKey : Prop :=
  ∀ s : State,
    (s.blk.dst.toNat + 16 ≤ s.memSize →
      exec .keygenAdk s = .next { s with
        mem := s.mem.writeBytes s.blk.dst.toNat (keyConst .adk)
        blk := { s.blk with result := 0xC5622785, status := 0x00000002, pending := none } } ∧
      exec .keygenDng s = .next { s with
        mem := s.mem.writeBytes s.blk.dst.toNat (keyConst .dng)
        blk := { s.blk with result := 0xD7E4A7F3, status := 0x00000002, pending := none } }) ∧
    (s.memSize < s.blk.dst.toNat + 16 →
      exec .keygenAdk s = .next (s.failed .range) ∧ exec .keygenDng s = .next (s.failed .range))

/-- R224 with `RAND = 1`: the randomized key of the name at `SRC` and its CRC; `RANGE`, then
`OVERLAP`. -/
def Obligations.KeygenRandomizedKey : Prop :=
  ∀ (s : State) (i : Instr) (g : Game), (i = .keygenAdkR ∧ g = .adk) ∨ (i = .keygenDngR ∧ g = .dng) →
    let nameOk := RangeOk s.blk.src.toNat s.blk.srcLen.toNat s.memSize
    let keyOk := s.blk.dst.toNat + 16 ≤ s.memSize
    let apart := RangesApart s.blk.src.toNat s.blk.srcLen.toNat s.blk.dst.toNat 16
    let key := makeKey (s.mem.readBytes s.blk.src.toNat s.blk.srcLen.toNat) true g
    (nameOk ∧ keyOk ∧ apart → exec i s = .next { s with
      mem := s.mem.writeBytes s.blk.dst.toNat key
      blk := { s.blk with result := crc32 key, status := 0x00000002, pending := none } }) ∧
    (¬ (nameOk ∧ keyOk) → exec i s = .next (s.failed .range)) ∧
    (nameOk ∧ keyOk ∧ ¬ apart → exec i s = .next (s.failed .overlap))

/-- R246: `OBF` in place; `RANGE`, then `OVERLAP`. -/
def Obligations.ObfTransformsInPlace : Prop :=
  ∀ s : State,
    let dataOk := RangeOk s.blk.src.toNat s.blk.srcLen.toNat s.memSize
    let keyOk := s.blk.key.toNat + 16 ≤ s.memSize
    let apart := RangesApart s.blk.src.toNat s.blk.srcLen.toNat s.blk.key.toNat 16
    (dataOk ∧ keyOk ∧ apart → exec .obf s = .next { s with
      mem := s.mem.writeBytes s.blk.src.toNat
        (obfuscate (s.mem.readBytes s.blk.src.toNat s.blk.srcLen.toNat) (s.mem.readBytes s.blk.key.toNat 16))
      blk := { s.blk with status := 0x00000002, pending := none } }) ∧
    (¬ (dataOk ∧ keyOk) → exec .obf s = .next (s.failed .range)) ∧
    (dataOk ∧ keyOk ∧ ¬ apart → exec .obf s = .next (s.failed .overlap))

/-- R269: `LZD` writes what was produced and its number, on success and on a size error; `RANGE`, then
`OVERLAP`. -/
def Obligations.LzdDecodesToDestination : Prop :=
  ∀ s : State,
    let srcOk := RangeOk s.blk.src.toNat s.blk.srcLen.toNat s.memSize
    let dstOk := RangeOk s.blk.dst.toNat s.blk.dstLen.toNat s.memSize
    let apart := RangesApart s.blk.src.toNat s.blk.srcLen.toNat s.blk.dst.toNat s.blk.dstLen.toNat
    let d := lzssDecode (s.mem.readBytes s.blk.src.toNat s.blk.srcLen.toNat) s.blk.dstLen.toNat
    let after : Word → State := fun status => { s with
      mem := s.mem.writeBytes s.blk.dst.toNat d.bytes
      blk := { s.blk with outLen := BitVec.ofNat 32 d.bytes.length, status := status, pending := none } }
    (srcOk ∧ dstOk ∧ apart ∧ d.code = .none → exec .lzd s = .next (after 0x00000002)) ∧
    (srcOk ∧ dstOk ∧ apart ∧ d.code = .sizeUnder → exec .lzd s = .next (after 0x00000506)) ∧
    (srcOk ∧ dstOk ∧ apart ∧ d.code = .sizeOver → exec .lzd s = .next (after 0x00000606)) ∧
    (¬ (srcOk ∧ dstOk) → exec .lzd s = .next (s.failed .range)) ∧
    (srcOk ∧ dstOk ∧ ¬ apart → exec .lzd s = .next (s.failed .overlap))

/-- R305: `LZE` writes the encoded bytes and their number, in both modes; `RANGE`, then `OVERLAP`, then
`CAPACITY`. Under the relational mode the bytes are a free choice inside the contract (log 15), and the
next draw is another one. -/
def Obligations.LzeEncodesToDestination : Prop :=
  ∀ s : State,
    let input := s.mem.readBytes s.blk.src.toNat s.blk.srcLen.toNat
    let srcOk := RangeOk s.blk.src.toNat s.blk.srcLen.toNat s.memSize
    let dstOk := RangeOk s.blk.dst.toNat s.blk.dstLen.toNat s.memSize
    let apart := RangesApart s.blk.src.toNat s.blk.srcLen.toNat s.blk.dst.toNat s.blk.dstLen.toNat
    let fits := s.blk.srcLen.toNat + (s.blk.srcLen.toNat + 7) / 8 ≤ s.blk.dstLen.toNat
    let after : List Byte → Nat → State := fun e k => { s with
      mem := s.mem.writeBytes s.blk.dst.toNat e
      draws := k
      blk := { s.blk with outLen := BitVec.ofNat 32 e.length, status := 0x00000002, pending := none } }
    (srcOk ∧ dstOk ∧ apart ∧ fits ∧ s.encMode = .reference →
      exec .lze s = .next (after (lzssEncode input) s.draws)) ∧
    (srcOk ∧ dstOk ∧ apart ∧ fits ∧ s.encMode = .relational →
      exec .lze s = .next (after (relationalEncode s.draws input) (s.draws + 1))) ∧
    (¬ (srcOk ∧ dstOk) → exec .lze s = .next (s.failed .range)) ∧
    (srcOk ∧ dstOk ∧ ¬ apart → exec .lze s = .next (s.failed .overlap)) ∧
    (srcOk ∧ dstOk ∧ apart ∧ ¬ fits → exec .lze s = .next (s.failed .capacity))

/-! ### Frames and errors -/

/-- R31, R107, R147, the registers' part: what no command writes, and what only its own row lists. -/
def Obligations.CommandsKeepOtherRegisters : Prop :=
  ∀ (i : Instr) (s t : State), exec i s = .next t →
    t.blk.regBase = s.blk.regBase ∧ t.blk.cmd = s.blk.cmd ∧
    t.blk.src = s.blk.src ∧ t.blk.srcLen = s.blk.srcLen ∧ t.blk.dst = s.blk.dst ∧
    t.blk.dstLen = s.blk.dstLen ∧ t.blk.key = s.blk.key ∧ t.blk.arg = s.blk.arg ∧
    (i ∉ [.seed, .next, .fill] → t.blk.prng = s.blk.prng) ∧
    (i ∉ [.crc32, .seed, .next, .keygenAdk, .keygenAdkR, .keygenDng, .keygenDngR] →
      t.blk.result = s.blk.result) ∧
    (i ∉ [.lzd, .lze] → t.blk.outLen = s.blk.outLen) ∧
    t.peers = s.peers ∧ t.memSize = s.memSize ∧ t.encMode = s.encMode ∧ t.script = s.script ∧
    t.rdata = s.rdata ∧ (i = .lze ∧ s.encMode = .relational ∨ t.draws = s.draws)

/-- R107, R147, the memory's part: a command leaves every byte outside its written ranges as it was,
whether it succeeds or fails. -/
def Obligations.CommandsKeepOtherMemory : Prop :=
  ∀ (i : Instr) (s t : State) (x : Nat), exec i s = .next t →
    (i ∈ [.fill, .lzd, .lze] → OutsideBytes s.blk.dst.toNat s.blk.dstLen.toNat x) →
    (i ∈ [.keygenAdk, .keygenAdkR, .keygenDng, .keygenDngR] → OutsideBytes s.blk.dst.toNat 16 x) →
    (i = .obf → OutsideBytes s.blk.src.toNat s.blk.srcLen.toNat x) →
    t.mem.read x = s.mem.read x

/-- R195, R198: the bytes `FILL` stores are the low bytes of the successive outputs, and it stores no
other. -/
def Obligations.FillStoresExactly : Prop :=
  ∀ s : State, s.mem.Wf → RangeOk s.blk.dst.toNat s.blk.dstLen.toNat s.memSize →
    ∃ t, exec .fill s = .next t ∧
      (∀ k < s.blk.dstLen.toNat,
        t.mem.read (s.blk.dst.toNat + k) = (prngAfter (k + 1) s.blk.prngWord).setWidth 8) ∧
      (∀ x, OutsideBytes s.blk.dst.toNat s.blk.dstLen.toNat x → t.mem.read x = s.mem.read x)

/-- R269, R334: after `LZD`, whatever its completion, the bytes produced stand at `DST` and every byte
after them is as it was. -/
def Obligations.LzdStoresExactlyWhatItProduced : Prop :=
  ∀ s : State, s.mem.Wf →
    RangeOk s.blk.src.toNat s.blk.srcLen.toNat s.memSize →
    RangeOk s.blk.dst.toNat s.blk.dstLen.toNat s.memSize →
    RangesApart s.blk.src.toNat s.blk.srcLen.toNat s.blk.dst.toNat s.blk.dstLen.toNat →
    let d := lzssDecode (s.mem.readBytes s.blk.src.toNat s.blk.srcLen.toNat) s.blk.dstLen.toNat
    ∃ t, exec .lzd s = .next t ∧ t.blk.outLen.toNat = d.bytes.length ∧
      (∀ k, (h : k < d.bytes.length) → t.mem.read (s.blk.dst.toNat + k) = d.bytes[k]) ∧
      (∀ x, OutsideBytes s.blk.dst.toNat d.bytes.length x → t.mem.read x = s.mem.read x)

/-- R145: a command that raises during decoding or the operand checks has changed only `STATUS` and the
pending flag and word. -/
def Obligations.ChecksRaiseBeforeAnyWrite : Prop :=
  (∀ (i : Instr) (s t : State) (code : ErrCode), code ∈ [.range, .overlap, .capacity] →
    exec i s = .next t → t.blk.status = statusFailure code → t = s.failed code) ∧
  (∀ (s t : State) (w : Word), s.execute w = .next t →
    t.blk.status = statusFailure .illegalCmd → t = s.failed .illegalCmd)

/-- R144: the operand checks and their order. -/
def Obligations.OperandChecksInOrder : Prop :=
  ∀ (i : Instr) (s : State),
    let rangesOk := ∀ r ∈ operandRanges i s.blk, RangeOk r.addr r.len s.memSize
    let apart := ∀ p ∈ overlapPairs i s.blk, RangesApart p.1.addr p.1.len p.2.addr p.2.len
    let fits := i = .lze → s.blk.srcLen.toNat + (s.blk.srcLen.toNat + 7) / 8 ≤ s.blk.dstLen.toNat
    (¬ rangesOk → exec i s = .next (s.failed .range)) ∧
    (rangesOk → ¬ apart → exec i s = .next (s.failed .overlap)) ∧
    (rangesOk → apart → ¬ fits → exec i s = .next (s.failed .capacity)) ∧
    (rangesOk → apart → fits → ∃ t, exec i s = .next t ∧
      (t.blk.status = 0x00000002 ∨ (i = .lzd ∧ (t.blk.status = 0x00000506 ∨ t.blk.status = 0x00000606))))

/-- R35: what the fields of `STATUS` are in a legal instance. -/
def Obligations.LegalStatusFields : Prop :=
  ∀ b : Block, b.legal = true →
    (statusErr b.status = true ↔ statusErrCode b.status ≠ 0) ∧
    b.status.toNat % 2 ^ 3 ∈ [0, 1, 2, 6] ∧
    (∀ k < 32, (3 ≤ k ∧ k < 8) ∨ 16 ≤ k → b.status.getLsbD k = false) ∧
    (statusBusy b.status = true ↔ b.pending.isSome = true) ∧
    (statusBusy b.status = true → statusErrCode b.status = 0 ∧ statusDone b.status = false) ∧
    (statusErrCode b.status).toNat ≤ 6

/-! ### The functions -/

/-- R165: the fast-path schedule computes the CRC. -/
def Obligations.CrcFastPathAgrees : Prop :=
  ∀ d : List Byte, crcFast d = crc32 d

/-- R163: one slice of a register and a little-endian word is four byte steps. -/
def Obligations.SliceIsFourByteSteps : Prop :=
  ∀ (r : Word) (b0 b1 b2 b3 : Byte),
    crcSlice (r ^^^ wordOfBytes b0 b1 b2 b3) = crcByte (crcByte (crcByte (crcByte r b0) b1) b2) b3

/-- R193: on the legal states the generator multiplies by 16807 modulo 2^31 - 1, and stays among them; its
two fixed points. -/
def Obligations.GeneratorIsParkMiller : Prop :=
  (∀ s : Word, 1 ≤ s.toNat → s.toNat ≤ 0x7FFFFFFE →
    (prngNext s).toNat = s.toNat * 16807 % (2 ^ 31 - 1) ∧
    1 ≤ (prngNext s).toNat ∧ (prngNext s).toNat ≤ 0x7FFFFFFE) ∧
  prngNext 0x00000000 = 0x00000000 ∧ prngNext 0x7FFFFFFF = 0x7FFFFFFF

/-- R379: from the fixed point every `FILL` byte is 0xFF and the state stays. -/
def Obligations.FixedPointFillsWithOnes : Prop :=
  ∀ n : Nat, prngFill n 0x7FFFFFFF = List.replicate n 0xFF ∧ prngAfter n 0x7FFFFFFF = 0x7FFFFFFF

/-- R191: the range of the conditioned seed. -/
def Obligations.ConditionedSeedRange : Prop :=
  ∀ c : Word,
    1 ≤ (condition c).toNat ∧ (condition c).toNat ≤ 0x7FFFFFFE ∧
    4 ≤ popcount31 (condition c) ∧ popcount31 (condition c) ≤ 30 ∧
    (8 ≤ popcount31 c → popcount31 c ≤ 24 → condition c = c &&& 0x7FFFFFFF#32) ∧
    (popcount31 c = 0 → condition c = 0x2A801540)

/-- R244: the obfuscator undoes itself. -/
def Obligations.ObfuscatorIsInvolution : Prop :=
  ∀ data key : List Byte, obfuscate (obfuscate data key) key = data

/-- R241, R242, R245: each byte after both passes, and the ranges of the draws. -/
def Obligations.ObfuscatorByteByByte : Prop :=
  ∀ (data key : List Byte), 0 < data.length →
    let d := obfDraws key data.length
    (128 ≤ d.pad1.length ∧ d.pad1.length ≤ 255 ∧ 17 ≤ d.pad2.length ∧ d.pad2.length ≤ 32 ∧
      d.start < data.length ∧ 8192 ≤ d.stride ∧ d.stride ≤ 16383) ∧
    (∀ k, (h : k < data.length) → (obfuscate data key)[k]? =
      some (data[k] ^^^ d.pad1.getD (k % d.pad1.length) 0 ^^^
        (if d.start ≤ k ∧ (k - d.start) % d.stride = 0 then d.pad2.getD (passBIndex d key k) 0 else 0)))

/-- R266, R268: how many bytes a decode writes, and with which code it ends. -/
def Obligations.DecoderSizeCodes : Prop :=
  ∀ (input : List Byte) (exp : Nat),
    let d := lzssDecode input exp
    (d.code = .none ∧ d.bytes.length = exp) ∨ (d.code = .sizeUnder ∧ d.bytes.length < exp) ∨
      (d.code = .sizeOver ∧ d.bytes.length = exp)

/-- R298: the search finds the longest match, and the earliest inserted among the longest. -/
def Obligations.SearchFindsLongestEarliest : Prop :=
  ∀ st : LzeScratch,
    let l := fun e : IndexEntry => matchLength st.ring (min lzEncMax st.len) e.pos st.r
    let best := bestMatch st
    (∀ e ∈ st.index, l e ≤ best.length) ∧ (st.index = [] → best.length = 0) ∧
    (1 ≤ best.length → ∃ e ∈ st.index, e.pos = best.pos ∧ l e = best.length ∧
      ∀ f ∈ st.index, l f = best.length → e.seq ≤ f.seq)

/-- R290 (a): decoding an encoded payload gives it back. -/
def Obligations.LzssRoundTrip : Prop :=
  ∀ input : List Byte, lzssDecode (lzssEncode input) input.length = { bytes := input, code := .none }

/-- R303: the size bound of the reference encoder. -/
def Obligations.EncoderSizeBound : Prop :=
  ∀ input : List Byte, (lzssEncode input).length ≤ input.length + (input.length + 7) / 8

/-- R290 (b), R299: the reference encoder's output is a sequence of packets with offsets 0..1023 and
lengths 3..16. -/
def Obligations.EncoderEmitsPackets : Prop :=
  ∀ input : List Byte, packetsWellFormed 0 0 (lzssEncode input) = true

/-- R290: under the relational mode `LZE` writes an output that meets the contract, whatever the free
choice is. -/
def Obligations.RelationalOutputMeetsContract : Prop :=
  ∀ (k : Nat) (input : List Byte),
    lzssDecode (relationalEncode k input) input.length = { bytes := input, code := .none } ∧
    packetsWellFormed 0 0 (relationalEncode k input) = true ∧
    (relationalEncode k input).length ≤ input.length + (input.length + 7) / 8 ∧
    (input = [] → relationalEncode k input = [])

/-- R120, R350, R356 (host software, log 20): a header written is the header read, and the game its tag stands for. -/
def Obligations.HeaderRoundTrip : Prop :=
  ∀ (h : ArchiveHeader) (g : Game) (body : List Byte), h.magic = 0x06091812 → h.tag = gameTag g →
    (emitHeader h).length = 20 ∧ parseHeader (emitHeader h ++ body) = some (h, g)

/-! ### The command interface -/

/-- R34, R140: a host write of `CMD` to an idle instance is accepted, whatever the word is. -/
def Obligations.CmdWriteIsAccepted : Prop :=
  ∀ (s : State) (w : Word) (rest : List Move),
    s.script = .writeReg s.blk.regBase 4 w :: rest → statusBusy s.blk.status = false →
    (∀ p ∈ s.peers, rangesConflict (s.blk.accept w).pendingRanges p.pendingRanges = false) →
    step s = .next { s with
      script := rest, blk := { s.blk with cmd := w, status := 0x00000001, pending := some w } }

/-- R141: while an instance is busy, every host write to every register is ignored. -/
def Obligations.WritesWhileBusyIgnored : Prop :=
  ∀ (s : State) (offset : Nat) (v : Word), offset < 0x40 → offset % 4 = 0 →
    statusBusy s.blk.status = true → s.writeAt (s.blk.regBase + offset) 4 v = .next s

/-- R35 to R43: a host write to an idle instance stores an operand register and is ignored by a read-only
one. -/
def Obligations.HostWritesOperandRegisters : Prop :=
  ∀ (s : State) (v : Word) (rest : List Move), statusBusy s.blk.status = false →
    let after : Nat → Block → Prop := fun offset b =>
      s.script = .writeReg (s.blk.regBase + offset) 4 v :: rest →
        step s = .next { s with script := rest, blk := b }
    after 0x04 s.blk ∧ after 0x08 { s.blk with src := v } ∧ after 0x0C { s.blk with srcLen := v } ∧
    after 0x10 { s.blk with dst := v } ∧ after 0x14 { s.blk with dstLen := v } ∧
    after 0x18 { s.blk with key := v } ∧ after 0x1C { s.blk with arg := v } ∧
    after 0x20 s.blk ∧ after 0x24 s.blk

/-- R44: a host write of `PRNG_STATE` to an idle instance reads back as `w & 0x7FFFFFFF`, or as 1 where
that is zero, and changes no other register. -/
def Obligations.PrngWriteStoresLegalSeed : Prop :=
  ∀ (s : State) (w : Word) (rest : List Move), statusBusy s.blk.status = false →
    s.script = .writeReg (s.blk.regBase + 0x28) 4 w :: rest →
    ∃ t, step s = .next t ∧ t = { s with script := rest, blk := { s.blk with prng := t.blk.prng } } ∧
      (w &&& 0x7FFFFFFF#32 ≠ 0 → t.blk.prngWord = w &&& 0x7FFFFFFF#32) ∧
      (w &&& 0x7FFFFFFF#32 = 0 → t.blk.prngWord = 1)

/-- R45: the reserved offsets. -/
def Obligations.ReservedOffsetsReadZero : Prop :=
  ∀ (s : State) (offset : Nat) (v : Word), offset ∈ [0x2C, 0x30, 0x34, 0x38, 0x3C] →
    s.readAt (s.blk.regBase + offset) 4 = .next { s with rdata := 0 } ∧
    s.writeAt (s.blk.regBase + offset) 4 v = .next s

/-- R149: host reads of a busy instance. R149 leaves the value of `RESULT`, `OUT_LEN` and `PRNG_STATE` open.
That bit 31 of `PRNG_STATE` still reads 0 is R44's and item I3's of spec/93_implementation_defined.md. That such
a read is one more free draw, counted in `draws`, is the model's (log 6 DESIGN CHOICE, log 7 DEDUCED), and so
are the schedule (log 3) and the field `rdata` (log 5). -/
def Obligations.ReadsWhileBusy : Prop :=
  ∀ (s : State) (w : Word) (rest : List Move), s.blk.legal = true → s.blk.pending = some w →
    let reads : Nat → Word → Prop := fun offset v =>
      s.script = .readReg (s.blk.regBase + offset) 4 :: rest →
        step s = .next { s with script := rest, rdata := v }
    let opens : Nat → (Word → Prop) → Prop := fun offset ok =>
      s.script = .readReg (s.blk.regBase + offset) 4 :: rest →
        ∃ v, ok v ∧ step s = .next { s with script := rest, rdata := v, draws := s.draws + 1 }
    reads 0x00 s.blk.cmd ∧ reads 0x04 0x00000001 ∧ reads 0x08 s.blk.src ∧ reads 0x0C s.blk.srcLen ∧
    reads 0x10 s.blk.dst ∧ reads 0x14 s.blk.dstLen ∧ reads 0x18 s.blk.key ∧ reads 0x1C s.blk.arg ∧
    opens 0x20 (fun _ => True) ∧ opens 0x24 (fun _ => True) ∧ opens 0x28 (fun v => v.getLsbD 31 = false)

/-- R34 to R44: host reads of an idle instance, offset by offset, return what the registers hold and change
nothing else. The last clause is R44: `PRNG_STATE` reads with bit 31 zero. The schedule (log 3), the field
`rdata` (log 5) and the 31 bits stored (log 16) are the model's choices. -/
def Obligations.ReadsWhileIdle : Prop :=
  ∀ (s : State) (rest : List Move), statusBusy s.blk.status = false →
    let reads : Nat → Word → Prop := fun offset v =>
      s.script = .readReg (s.blk.regBase + offset) 4 :: rest →
        step s = .next { s with script := rest, rdata := v }
    reads 0x00 s.blk.cmd ∧ reads 0x04 s.blk.status ∧ reads 0x08 s.blk.src ∧ reads 0x0C s.blk.srcLen ∧
    reads 0x10 s.blk.dst ∧ reads 0x14 s.blk.dstLen ∧ reads 0x18 s.blk.key ∧ reads 0x1C s.blk.arg ∧
    reads 0x20 s.blk.result ∧ reads 0x24 s.blk.outLen ∧ reads 0x28 s.blk.prngWord ∧
    s.blk.prngWord = s.blk.prng.setWidth 32

/-- R74: a register access of another width or off a word is refused. -/
def Obligations.OddAccessesRefused : Prop :=
  ∀ (s : State) (offset width : Nat) (v : Word), offset < 0x40 → (width ≠ 4 ∨ offset % 4 ≠ 0) →
    s.writeAt (s.blk.regBase + offset) width v = .refused .unsupportedAccess ∧
    s.readAt (s.blk.regBase + offset) width = .refused .unsupportedAccess

/-- R88, R375: a host store or load that touches an operand range of a pending command faults. -/
def Obligations.InFlightAccessFaults : Prop :=
  ∀ (s : State) (b : Block) (w : Word) (i : Instr) (r : OperandRange) (a x : Nat) (bytes : List Byte)
    (rest : List Move),
    b ∈ s.instances → b.pending = some w → decode w = .ok i → r ∈ operandRanges i b →
    r.addr ≤ x → x < r.addr + r.len →
    (a ≤ x → x < a + bytes.length → a + bytes.length ≤ s.memSize → s.script = .storeBytes a bytes :: rest →
      step s = .fault .inFlightAccess) ∧
    (x < s.memSize → s.script = .loadByte x :: rest → step s = .fault .inFlightAccess)

/-- R70, R77, R82, R88: a host store of bytes that exist, none of them in an operand range of a pending
command, changes those bytes and nothing else, and a load of such a byte returns it, also while commands are
pending. The schedule (log 3) and the field `rdata` (log 5) are the model's choices. -/
def Obligations.HostStoresAndLoads : Prop :=
  ∀ (s : State) (a : Nat) (bytes : List Byte) (rest : List Move), s.mem.Wf →
    let notInFlight : Nat → Prop := fun x =>
      ∀ b ∈ s.instances, ∀ (w : Word) (i : Instr), b.pending = some w → decode w = .ok i →
        ∀ r ∈ operandRanges i b, OutsideBytes r.addr r.len x
    (a + bytes.length ≤ s.memSize → (∀ x, a ≤ x → x < a + bytes.length → notInFlight x) →
      s.script = .storeBytes a bytes :: rest →
      ∃ t, step s = .next t ∧ t = { s with script := rest, mem := t.mem } ∧
        (∀ k, (h : k < bytes.length) → t.mem.read (a + k) = bytes[k]) ∧
        (∀ x, OutsideBytes a bytes.length x → t.mem.read x = s.mem.read x)) ∧
    (a < s.memSize → notInFlight a → s.script = .loadByte a :: rest →
      step s = .next { s with script := rest, rdata := (s.mem.read a).setWidth 32 })

/-- R89, R384: a second acceptance on ranges that meet those of a pending command, where either writes,
faults. The ranges are those of the decoded commands, checked or not (log 12). -/
def Obligations.SecondAcceptanceFaults : Prop :=
  ∀ (s : State) (p : Block) (w v : Word) (i j : Instr) (r q : OperandRange) (rest : List Move),
    s.script = .writeReg s.blk.regBase 4 w :: rest → statusBusy s.blk.status = false →
    p ∈ s.peers → p.pending = some v → decode w = .ok i → decode v = .ok j →
    r ∈ operandRanges i s.blk → q ∈ operandRanges j p →
    ¬ RangesApart r.addr r.len q.addr q.len → r.written = true ∨ q.written = true →
    step s = .fault .instanceConflict

/-- R49, R344: a move that names an instance by its window acts on that instance, in focus or not, and
leaves the others as they were. The step is that of the state with the named instance in focus, of which the
statements above speak, and no other instance is changed by it. The instance in focus and its exchange are
the model's choice (log 13), and so is the schedule (log 3). Windows are apart and aligned (R12, R344), so
an address names one instance. -/
def Obligations.MovesActOnTheNamedInstance : Prop :=
  ∀ (s : State) (b : Block) (m : Move) (rest : List Move),
    s.script = m :: rest → b ∈ s.instances →
    s.windows.Nodup → (∀ c ∈ s.instances, c.regBase % 0x40 = 0) →
    (match m with
      | .writeReg addr _ _ => b.regBase ≤ addr ∧ addr < b.regBase + 0x40
      | .readReg addr _ => b.regBase ≤ addr ∧ addr < b.regBase + 0x40
      | .waitIdle base => b.regBase = base
      | .storeBytes _ _ => False
      | .loadByte _ => False
      | .resetInstance base => b.regBase = base
      | .blockMoves base => b.regBase = base) →
    ∃ others, (b :: others).Perm s.instances ∧
      step s = step { s with blk := b, peers := others } ∧
      ∀ t, step s = .next t → t.peers = others

/-! ### Reset -/

/-- R370: what reset leaves in the registers, for every choice of parameters (the ones `State.reset` takes
are log 1's), and for a reset at any later time. -/
def Obligations.ResetValues : Prop :=
  (∀ (p : Config.Params) (b : Block), b ∈ (State.resetWith p).instances → ∃ base, b =
    { regBase := base, cmd := 0, status := 0, src := 0, srcLen := 0, dst := 0, dstLen := 0, key := 0
      arg := 0, result := 0, outLen := 0, prng := 1, pending := none }) ∧
  (∃ p, State.reset = State.resetWith p) ∧
  (∀ (s : State) (rest : List Move), s.script = .resetInstance s.blk.regBase :: rest →
    ∃ t, step s = .next t ∧ t.script = rest ∧ t.peers = s.peers ∧ t.blk =
      { regBase := s.blk.regBase, cmd := 0, status := 0, src := 0, srcLen := 0, dst := 0, dstLen := 0
        key := 0, arg := 0, result := 0, outLen := 0, prng := 1, pending := none })

/-- R371, R372, for the bytes that exist (log 8): a reset leaves memory alone but for the write ranges of a
discarded command, whose bytes are free values. An illegal word has no operand range, so its discard changes
no byte (DEDUCED, log 8). -/
def Obligations.ResetAndMemory : Prop :=
  ∀ (s t : State) (rest : List Move), s.mem.Wf → s.script = .resetInstance s.blk.regBase :: rest →
    step s = .next t →
    (s.blk.pending = none → t.mem = s.mem) ∧
    (∀ (w : Word) (e : DecodeError), s.blk.pending = some w → decode w = .error e → t.mem = s.mem) ∧
    (∀ (w : Word) (i : Instr), s.blk.pending = some w → decode w = .ok i → ∀ x,
      ((∀ r ∈ operandRanges i s.blk, r.written = true → OutsideBytes r.addr r.len x) →
        t.mem.read x = s.mem.read x) ∧
      (∀ r ∈ operandRanges i s.blk, r.written = true → r.addr ≤ x → x < r.addr + r.len → x < s.memSize →
        ∃ k, t.mem.read x = Config.freeByte k))

/-! ### Progress -/

/-- R140, R382: with no move left, a pending command of some instance completes in the next step, whatever
its word, the completion shows in its `STATUS`, and the other instances are as they were. That it is the next
step, and that the instance in focus goes first, is the model's choice (log 4, log 13). -/
def Obligations.PendingCommandCompletes : Prop :=
  ∀ s : State, s.script = [] → (∃ b ∈ s.instances, b.pending ≠ none) →
    ∃ b t, b.pending ≠ none ∧ (s.blk.pending ≠ none → b = s.blk) ∧ (b :: t.peers).Perm s.instances ∧
      step s = .next t ∧ t.blk.pending = none ∧ statusBusy t.blk.status = false ∧
      statusDone t.blk.status = true ∧
      (statusErr t.blk.status = true ↔ statusErrCode t.blk.status ≠ 0) ∧
      t.blk.cmd = b.cmd ∧ t.blk.regBase = b.regBase

/-- R83, R382: a `WAIT` ends, after the pending command if there is one, with `STATUS` read. That the
command takes the next step is the model's choice (log 4). -/
def Obligations.WaitEnds : Prop :=
  ∀ (s : State) (rest : List Move), s.blk.legal = true → s.script = .waitIdle s.blk.regBase :: rest →
    (statusBusy s.blk.status = false →
      step s = .next { s with script := rest, rdata := s.blk.status }) ∧
    (statusBusy s.blk.status = true → ∃ t, step s = .next t ∧ t.script = s.script ∧
      statusBusy t.blk.status = false ∧ step t = .next { t with script := rest, rdata := t.blk.status })

/-- R345, R373: with no move left and no command pending, nothing happens (the empty schedule is the
model's, log 3). -/
def Obligations.IdleMachineRests : Prop :=
  ∀ s : State, s.script = [] → (∀ b ∈ s.instances, b.pending = none) → step s = .next s

/-! ### Invariants -/

/-- R12, R70: every step keeps buffer memory canonical and inside `MEM_SIZE`. -/
def Obligations.StepKeepsMemoryLegal : Prop :=
  ∀ s t : State, s.MemoryLegal → step s = .next t → t.MemoryLegal

/-- R34, R35, R44, R46, R344: every step keeps every instance legal and the windows apart. -/
def Obligations.StepKeepsRegistersLegal : Prop :=
  ∀ s t : State, s.RegistersLegal → step s = .next t → t.RegistersLegal

/-- R89: every step keeps the ranges of pending commands apart where either writes. -/
def Obligations.StepKeepsPendingExclusive : Prop :=
  ∀ s t : State, s.RegistersLegal → s.Exclusive → step s = .next t → t.Exclusive

/-- R12, R344: no step changes a parameter: `MEM_SIZE`, `ENC_MODE`, or the instances' windows. -/
def Obligations.StepKeepsParameters : Prop :=
  ∀ s t : State, step s = .next t →
    t.memSize = s.memSize ∧ t.encMode = s.encMode ∧ t.windows.Perm s.windows

/-- R12, R370: the three invariants hold after reset, for every legal choice of parameters, and so for
`State.reset`. -/
def Obligations.ResetIsLegal : Prop :=
  (∀ p : Config.Params, p.wellFormed = true →
    (State.resetWith p).MemoryLegal ∧ (State.resetWith p).RegistersLegal ∧ (State.resetWith p).Exclusive) ∧
  (State.reset.MemoryLegal ∧ State.reset.RegistersLegal ∧ State.reset.Exclusive)
end

