-- ==== Sys2Proof/Laws/Archive.lean ====
section
/-! SUPPORT. What the file-name rules of the host do (spec/60_exceptions.md R354): a name cut at its dots is
put together again by its dots, and one marker is removed. -/

namespace Sys2Proof.Machine

/-- A byte of a base name: not a separator of directories (log 20). -/
abbrev NameByte (c : Byte) : Prop := c ≠ 0x2F#8 ∧ c ≠ 0x5C#8

theorem cutAt_ne_nil (sep : Byte → Bool) (cs : List Byte) : cutAt sep cs ≠ [] := by
  cases cs with
  | nil => simp [cutAt]
  | cons c cs =>
    unfold cutAt
    split
    · simp
    · split <;> simp

/-- A name without the bytes it is cut at is one part. -/
theorem cutAt_of_none {sep : Byte → Bool} {cs : List Byte} (h : ∀ c ∈ cs, sep c = false) :
    cutAt sep cs = [cs] := by
  induction cs with
  | nil => rfl
  | cons c cs ih =>
    simp only [List.mem_cons, forall_eq_or_imp] at h
    simp [cutAt, h.1, ih h.2]

/-- The parts on both sides of a cut. -/
theorem cutAt_append {sep : Byte → Bool} {c : Byte} (h : sep c = true) (xs ys : List Byte) :
    cutAt sep (xs ++ c :: ys) = cutAt sep xs ++ cutAt sep ys := by
  induction xs with
  | nil => simp [cutAt, h]
  | cons x xs ih =>
    simp only [List.cons_append, cutAt]
    split
    · simp [ih]
    · rw [ih]
      cases hx : cutAt sep xs with
      | nil => exact absurd hx (cutAt_ne_nil sep xs)
      | cons w ws => simp

theorem joinParts_cons {ws : List (List Byte)} (h : ws ≠ []) (w : List Byte) :
    joinParts (w :: ws) = w ++ 0x2E#8 :: joinParts ws := by
  cases ws with
  | nil => exact absurd rfl h
  | cons v vs => rfl

theorem joinParts_append_singleton {ws : List (List Byte)} (h : ws ≠ []) (e : List Byte) :
    joinParts (ws ++ [e]) = joinParts ws ++ 0x2E#8 :: e := by
  induction ws with
  | nil => exact absurd rfl h
  | cons w ws ih =>
    cases ws with
    | nil => rfl
    | cons v vs =>
      rw [List.cons_append, joinParts_cons (by simp), ih (List.cons_ne_nil v vs),
        joinParts_cons (List.cons_ne_nil v vs), List.append_assoc, List.cons_append]

/-- Cutting at the dots and joining by dots gives the name back. -/
theorem joinParts_cutAt (cs : List Byte) : joinParts (cutAt (fun c => c = 0x2E#8) cs) = cs := by
  induction cs with
  | nil => rfl
  | cons c cs ih =>
    have hn := cutAt_ne_nil (fun c => c = 0x2E#8) cs
    unfold cutAt
    split
    · rename_i hc
      rw [joinParts_cons hn, ih]
      simp_all
    · cases hx : cutAt (fun c => decide (c = 0x2E#8)) cs with
      | nil => exact absurd hx hn
      | cons w ws =>
        rw [hx] at ih
        cases ws with
        | nil => simpa [joinParts] using ih
        | cons v vs =>
          rw [joinParts_cons (by simp)] at ih ⊢
          simp [ih]

/-- The base name of a name without directories is the name. -/
theorem baseName_of_nameBytes {f : List Byte} (h : ∀ c ∈ f, NameByte c) : baseName f = f := by
  unfold baseName
  rw [cutAt_of_none (fun c hc => by simp [(h c hc).1, (h c hc).2])]
  rfl

@[simp] theorem dropLastPicked_append_singleton {pick : List Byte → Bool} {m : List Byte} (h : pick m = true)
    (ws : List (List Byte)) : dropLastPicked pick (ws ++ [m]) = ws := by
  simp [dropLastPicked, h]

/-- R354: `<stem>.<marker>.<ext>` gives `<stem>.<ext>`, whatever the stem is: one marker is removed. -/
theorem withoutMarker_spec {pick : List Byte → Bool} {stem m ext : List Byte} (hp : pick m = true)
    (hn : ∀ c ∈ stem ++ 0x2E#8 :: (m ++ 0x2E#8 :: ext), NameByte c)
    (hm : ∀ c ∈ m, c ≠ 0x2E#8) (he : ∀ c ∈ ext, c ≠ 0x2E#8) :
    withoutMarker pick (stem ++ 0x2E#8 :: (m ++ 0x2E#8 :: ext)) = stem ++ 0x2E#8 :: ext := by
  have hparts : nameParts (stem ++ 0x2E#8 :: (m ++ 0x2E#8 :: ext)) =
      cutAt (fun c => decide (c = 0x2E#8)) stem ++ [m, ext] := by
    unfold nameParts
    have hc : ∀ l : List Byte, (∀ c ∈ l, c ≠ 0x2E#8) → cutAt (fun c => decide (c = 0x2E#8)) l = [l] :=
      fun l h => cutAt_of_none (fun c hl => by simp [h c hl])
    rw [baseName_of_nameBytes hn, cutAt_append (by decide), cutAt_append (by decide), hc m hm, hc ext he]
    rfl
  obtain ⟨w, ws, hw⟩ := List.exists_cons_of_ne_nil (cutAt_ne_nil (fun c => decide (c = 0x2E#8)) stem)
  have hi : innerParts (stem ++ 0x2E#8 :: (m ++ 0x2E#8 :: ext)) = ws ++ [m] := by
    unfold innerParts
    rw [hparts, hw, show w :: ws ++ [m, ext] = w :: (ws ++ [m] ++ [ext]) by simp]
    simp only [List.drop_succ_cons, List.drop_zero, List.dropLast_concat]
  have hlast : ((nameParts (stem ++ 0x2E#8 :: (m ++ 0x2E#8 :: ext))).drop 1).getLast?.toList = [ext] := by
    rw [hparts, hw]; simp
  have hfirst : (nameParts (stem ++ 0x2E#8 :: (m ++ 0x2E#8 :: ext))).take 1 = [w] := by
    rw [hparts, hw]; simp
  unfold withoutMarker
  rw [hi, hlast, hfirst, dropLastPicked_append_singleton hp, show [w] ++ ws = w :: ws from rfl, ← hw,
    joinParts_append_singleton (cutAt_ne_nil _ _), joinParts_cutAt]

/-- An extension that has no dot is no name with a dot. -/
theorem ne_dot_of_isExtension {ext m : List Byte} (hx : 0x2E#8 ∉ ext) (h : isExtension ext m = true) :
    ∀ c ∈ m, c ≠ 0x2E#8 := by
  rintro c hc rfl
  refine hx ?_
  rw [← of_decide_eq_true h]
  exact List.mem_map.mpr ⟨_, hc, by decide⟩

/-- R354 on decrypt: `<stem>.cmp.<ext>` keys on `<stem>.<ext>`, letter case of the marker aside. -/
theorem decryptKeyName_marker {stem m ext : List Byte} (h : isExtension extCmp m = true)
    (hn : ∀ c ∈ stem ++ 0x2E#8 :: (m ++ 0x2E#8 :: ext), NameByte c) (he : ∀ c ∈ ext, c ≠ 0x2E#8) :
    decryptKeyName (stem ++ 0x2E#8 :: (m ++ 0x2E#8 :: ext)) = stem ++ 0x2E#8 :: ext :=
  withoutMarker_spec h hn (ne_dot_of_isExtension (by decide) h) he

/-- R354 on encrypt: `<stem>.<adk|dng>.<ext>` keys on `<stem>.<ext>`, letter case of the marker aside. -/
theorem encryptKeyName_marker {stem m ext : List Byte}
    (h : isExtension extAdk m = true ∨ isExtension extDng m = true)
    (hn : ∀ c ∈ stem ++ 0x2E#8 :: (m ++ 0x2E#8 :: ext), NameByte c) (he : ∀ c ∈ ext, c ≠ 0x2E#8) :
    encryptKeyName (stem ++ 0x2E#8 :: (m ++ 0x2E#8 :: ext)) = stem ++ 0x2E#8 :: ext :=
  withoutMarker_spec (by simpa using h) hn
    (h.elim (ne_dot_of_isExtension (by decide)) (ne_dot_of_isExtension (by decide))) he

end Sys2Proof.Machine
end

