-- ==== Sys2Proof/Laws/Memory.lean ====
section
/-! SUPPORT. What the memory operations do: reads after writes, and the canonical form. -/

namespace Sys2Proof.Machine

theorem Memory.read_put (a : Nat) (v : Byte) (m : Memory) (x : Nat) :
    (Memory.put a v m).read x = if v ≠ Memory.unlisted ∧ a = x then v else m.read x := by
  unfold Memory.put
  by_cases h : v = Memory.unlisted <;> simp [h, Memory.read]

/-- A write leaves every other address alone. -/
theorem Memory.read_write_other (m : Memory) {a x : Nat} (v : Byte) (h : x ≠ a) :
    (m.write a v).read x = m.read x := by
  have ha : a ≠ x := fun e => h e.symm
  induction m with
  | nil => simp [Memory.write, Memory.read_put, ha]
  | cons c m ih =>
    obtain ⟨b, u⟩ := c
    unfold Memory.write
    split
    · simp [Memory.read_put, ha]
    · split
      · rename_i hab
        subst hab
        simp [Memory.read_put, ha, Memory.read]
      · simp [Memory.read, ih]

/-- Below every listed address, memory reads as unlisted. -/
theorem Memory.read_of_lt (m : Memory) (x : Nat) (h : ∀ c ∈ m, x < c.1) : m.read x = Memory.unlisted := by
  induction m with
  | nil => rfl
  | cons c m ih =>
    have hc := h c (by simp)
    simp only [Memory.read]
    rw [if_neg (by omega)]
    exact ih fun d hd => h d (by simp [hd])

/-- A read after a write to the same address gives the value written. -/
theorem Memory.read_write_same (m : Memory) (hm : m.Wf) (a : Nat) (v : Byte) : (m.write a v).read a = v := by
  induction m with
  | nil => by_cases h : v = Memory.unlisted <;> simp [Memory.write, Memory.read_put, Memory.read, h]
  | cons c m ih =>
    obtain ⟨b, u⟩ := c
    have hp := List.pairwise_cons.mp hm.1
    have hwf : Memory.Wf m := ⟨hp.2, fun d hd => hm.2 d (by simp [hd])⟩
    unfold Memory.write
    split
    · rename_i hab
      by_cases h : v = Memory.unlisted
      · rw [Memory.read_put, if_neg (by simp [h]), h]
        refine Memory.read_of_lt _ _ fun d hd => ?_
        rcases List.mem_cons.mp hd with rfl | hd
        · exact hab
        · have := hp.1 d hd; simp only at this; omega
      · simp [Memory.read_put, h]
    · split
      · rename_i hab
        by_cases h : v = Memory.unlisted
        · rw [Memory.read_put, if_neg (by simp [h]), h]
          refine Memory.read_of_lt _ _ fun d hd => ?_
          have := hp.1 d hd; simp only at this; omega
        · simp [Memory.read_put, h]
      · rename_i h1 h2
        simp only [Memory.read]
        rw [if_neg (by omega)]
        exact ih hwf

/-- The cells after a write are old ones, or the one written. -/
theorem Memory.mem_write {m : Memory} {a : Nat} {v : Byte} {c : Host.Cell} (h : c ∈ m.write a v) :
    c ∈ m ∨ (c = (a, v) ∧ v ≠ Memory.unlisted) := by
  have hput : ∀ (k : Memory), c ∈ Memory.put a v k → c ∈ k ∨ (c = (a, v) ∧ v ≠ Memory.unlisted) := by
    intro k hk
    unfold Memory.put at hk
    split at hk
    · exact Or.inl hk
    · rename_i hv
      rcases List.mem_cons.mp hk with rfl | hk
      · exact Or.inr ⟨rfl, hv⟩
      · exact Or.inl hk
  induction m with
  | nil => exact hput [] h
  | cons d m ih =>
    obtain ⟨b, u⟩ := d
    unfold Memory.write at h
    split at h
    · exact hput _ h
    · split at h
      · rcases hput _ h with h | h
        · exact Or.inl (by simp [h])
        · exact Or.inr h
      · rcases List.mem_cons.mp h with rfl | h
        · exact Or.inl (by simp)
        · rcases ih h with h | h
          · exact Or.inl (by simp [h])
          · exact Or.inr h

theorem Memory.put_wf {a : Nat} {v : Byte} {m : Memory} (hm : m.Wf) (h : ∀ c ∈ m, a < c.1) :
    (Memory.put a v m).Wf := by
  unfold Memory.put
  split
  · exact hm
  · rename_i hv
    refine ⟨List.pairwise_cons.mpr ⟨fun c hc => h c hc, hm.1⟩, fun c hc => ?_⟩
    rcases List.mem_cons.mp hc with rfl | hc
    · exact hv
    · exact hm.2 c hc

/-- A write keeps the canonical form. -/
theorem Memory.write_wf {m : Memory} (hm : m.Wf) (a : Nat) (v : Byte) : (m.write a v).Wf := by
  induction m with
  | nil => exact Memory.put_wf hm (by simp)
  | cons d m ih =>
    obtain ⟨b, u⟩ := d
    have hp := List.pairwise_cons.mp hm.1
    have hwf : Memory.Wf m := ⟨hp.2, fun d hd => hm.2 d (by simp [hd])⟩
    unfold Memory.write
    split
    · rename_i hab
      refine Memory.put_wf hm fun c hc => ?_
      rcases List.mem_cons.mp hc with rfl | hc
      · exact hab
      · have := hp.1 c hc; simp only at this; omega
    · split
      · rename_i hab
        refine Memory.put_wf hwf fun c hc => ?_
        have := hp.1 c hc; simp only at this; omega
      · rename_i h1 h2
        refine ⟨List.pairwise_cons.mpr ⟨fun c hc => ?_, (ih hwf).1⟩, fun c hc => ?_⟩
        · rcases Memory.mem_write hc with hc | ⟨rfl, _⟩
          · exact hp.1 c hc
          · simp only; omega
        · rcases List.mem_cons.mp hc with rfl | hc
          · exact hm.2 _ (by simp)
          · exact (ih hwf).2 c hc

@[simp] theorem Memory.length_readBytes (m : Memory) (a n : Nat) : (m.readBytes a n).length = n := by
  induction n generalizing a with
  | zero => rfl
  | succ n ih => simp [Memory.readBytes, ih]

@[simp] theorem Memory.writeBytes_nil (m : Memory) (a : Nat) : m.writeBytes a [] = m := rfl

/-- The `i`-th byte of a range is the byte at that address. -/
theorem Memory.getElem?_readBytes (m : Memory) (a n i : Nat) (h : i < n) :
    (m.readBytes a n)[i]? = some (m.read (a + i)) := by
  induction n generalizing a i with
  | zero => omega
  | succ n ih =>
    cases i with
    | zero => simp [Memory.readBytes]
    | succ i =>
      simp only [Memory.readBytes, List.getElem?_cons_succ]
      rw [ih (a + 1) i (by omega), show a + 1 + i = a + (i + 1) by omega]

/-- Storing bytes leaves every address outside them alone. -/
theorem Memory.read_writeBytes_other (m : Memory) (a : Nat) (bs : List Byte) (x : Nat)
    (h : x < a ∨ a + bs.length ≤ x) : (m.writeBytes a bs).read x = m.read x := by
  induction bs generalizing m a with
  | nil => rfl
  | cons b bs ih =>
    simp only [List.length_cons] at h
    rw [Memory.writeBytes, ih _ _ (by omega), Memory.read_write_other m b (by omega)]

/-- Storing bytes keeps the canonical form. -/
theorem Memory.writeBytes_wf {m : Memory} (hm : m.Wf) (a : Nat) (bs : List Byte) : (m.writeBytes a bs).Wf := by
  induction bs generalizing m a with
  | nil => exact hm
  | cons b bs ih => exact ih (Memory.write_wf hm a b) (a + 1)

/-- The bytes stored read back. -/
theorem Memory.read_writeBytes_same (m : Memory) (hm : m.Wf) (a : Nat) (bs : List Byte) (i : Nat)
    (h : i < bs.length) : (m.writeBytes a bs).read (a + i) = bs[i] := by
  induction bs generalizing m a i with
  | nil => simp at h
  | cons b bs ih =>
    cases i with
    | zero =>
      rw [Memory.writeBytes, Memory.read_writeBytes_other _ _ _ _ (by omega)]
      simpa using Memory.read_write_same m hm a b
    | succ i =>
      simp only [List.length_cons] at h
      rw [Memory.writeBytes, show a + (i + 1) = a + 1 + i by omega, ih _ (Memory.write_wf hm a b) _ _ (by omega)]
      simp

/-- The cells after storing bytes are old ones or lie among the bytes stored. -/
theorem Memory.mem_writeBytes {m : Memory} {a : Nat} {bs : List Byte} {c : Host.Cell}
    (h : c ∈ m.writeBytes a bs) : c ∈ m ∨ (a ≤ c.1 ∧ c.1 < a + bs.length) := by
  induction bs generalizing m a with
  | nil => exact Or.inl h
  | cons b bs ih =>
    rcases ih (m := m.write a b) (a := a + 1) h with h | h
    · rcases Memory.mem_write h with h | ⟨rfl, _⟩
      · exact Or.inl h
      · exact Or.inr (by simp)
    · exact Or.inr (by simp only [List.length_cons]; omega)

/-- Bytes of free values leave every address outside them alone. -/
theorem Memory.read_havoc_other (m : Memory) (a n size k x : Nat) (h : x < a ∨ a + n ≤ x) :
    (m.havoc a n size k).read x = m.read x := by
  induction n generalizing m a k with
  | zero => rfl
  | succ n ih =>
    unfold Memory.havoc
    split
    · rw [ih _ _ _ (by omega), Memory.read_write_other m _ (by omega)]
    · rfl

theorem Memory.havoc_wf {m : Memory} (hm : m.Wf) (a n size k : Nat) : (m.havoc a n size k).Wf := by
  induction n generalizing m a k with
  | zero => exact hm
  | succ n ih =>
    unfold Memory.havoc
    split
    · exact ih (Memory.write_wf hm _ _) _ _
    · exact hm

/-- Only bytes that exist take free values. -/
theorem Memory.mem_havoc {m : Memory} {a n size k : Nat} {c : Host.Cell} (h : c ∈ m.havoc a n size k) :
    c ∈ m ∨ c.1 < size := by
  induction n generalizing m a k with
  | zero => exact Or.inl h
  | succ n ih =>
    unfold Memory.havoc at h
    split at h
    · rename_i hs
      rcases ih h with h | h
      · rcases Memory.mem_write h with h | ⟨rfl, _⟩
        · exact Or.inl h
        · exact Or.inr hs
      · exact Or.inr h
    · exact Or.inl h

end Sys2Proof.Machine
end

