-- ==== Sys2Proof/Laws/State.lean ====
section
/-! SUPPORT. One lemma per field per update of State and Block, so that no proof unfolds a record update. -/

namespace Sys2Proof.Machine

@[simp] theorem State.complete_blk_regBase (s : State) :
    (s.complete).blk.regBase = s.blk.regBase := rfl
@[simp] theorem State.complete_blk_cmd (s : State) :
    (s.complete).blk.cmd = s.blk.cmd := rfl
@[simp] theorem State.complete_blk_status (s : State) :
    (s.complete).blk.status = statusSuccess := rfl
@[simp] theorem State.complete_blk_src (s : State) :
    (s.complete).blk.src = s.blk.src := rfl
@[simp] theorem State.complete_blk_srcLen (s : State) :
    (s.complete).blk.srcLen = s.blk.srcLen := rfl
@[simp] theorem State.complete_blk_dst (s : State) :
    (s.complete).blk.dst = s.blk.dst := rfl
@[simp] theorem State.complete_blk_dstLen (s : State) :
    (s.complete).blk.dstLen = s.blk.dstLen := rfl
@[simp] theorem State.complete_blk_key (s : State) :
    (s.complete).blk.key = s.blk.key := rfl
@[simp] theorem State.complete_blk_arg (s : State) :
    (s.complete).blk.arg = s.blk.arg := rfl
@[simp] theorem State.complete_blk_result (s : State) :
    (s.complete).blk.result = s.blk.result := rfl
@[simp] theorem State.complete_blk_outLen (s : State) :
    (s.complete).blk.outLen = s.blk.outLen := rfl
@[simp] theorem State.complete_blk_prng (s : State) :
    (s.complete).blk.prng = s.blk.prng := rfl
@[simp] theorem State.complete_blk_pending (s : State) :
    (s.complete).blk.pending = none := rfl
@[simp] theorem State.complete_peers (s : State) :
    (s.complete).peers = s.peers := rfl
@[simp] theorem State.complete_mem (s : State) :
    (s.complete).mem = s.mem := rfl
@[simp] theorem State.complete_memSize (s : State) :
    (s.complete).memSize = s.memSize := rfl
@[simp] theorem State.complete_encMode (s : State) :
    (s.complete).encMode = s.encMode := rfl
@[simp] theorem State.complete_script (s : State) :
    (s.complete).script = s.script := rfl
@[simp] theorem State.complete_rdata (s : State) :
    (s.complete).rdata = s.rdata := rfl
@[simp] theorem State.complete_draws (s : State) :
    (s.complete).draws = s.draws := rfl

@[simp] theorem State.raiseError_blk_regBase (s : State) (code : ErrCode) :
    (s.raiseError code).blk.regBase = s.blk.regBase := rfl
@[simp] theorem State.raiseError_blk_cmd (s : State) (code : ErrCode) :
    (s.raiseError code).blk.cmd = s.blk.cmd := rfl
@[simp] theorem State.raiseError_blk_status (s : State) (code : ErrCode) :
    (s.raiseError code).blk.status = statusFailure code := rfl
@[simp] theorem State.raiseError_blk_src (s : State) (code : ErrCode) :
    (s.raiseError code).blk.src = s.blk.src := rfl
@[simp] theorem State.raiseError_blk_srcLen (s : State) (code : ErrCode) :
    (s.raiseError code).blk.srcLen = s.blk.srcLen := rfl
@[simp] theorem State.raiseError_blk_dst (s : State) (code : ErrCode) :
    (s.raiseError code).blk.dst = s.blk.dst := rfl
@[simp] theorem State.raiseError_blk_dstLen (s : State) (code : ErrCode) :
    (s.raiseError code).blk.dstLen = s.blk.dstLen := rfl
@[simp] theorem State.raiseError_blk_key (s : State) (code : ErrCode) :
    (s.raiseError code).blk.key = s.blk.key := rfl
@[simp] theorem State.raiseError_blk_arg (s : State) (code : ErrCode) :
    (s.raiseError code).blk.arg = s.blk.arg := rfl
@[simp] theorem State.raiseError_blk_result (s : State) (code : ErrCode) :
    (s.raiseError code).blk.result = s.blk.result := rfl
@[simp] theorem State.raiseError_blk_outLen (s : State) (code : ErrCode) :
    (s.raiseError code).blk.outLen = s.blk.outLen := rfl
@[simp] theorem State.raiseError_blk_prng (s : State) (code : ErrCode) :
    (s.raiseError code).blk.prng = s.blk.prng := rfl
@[simp] theorem State.raiseError_blk_pending (s : State) (code : ErrCode) :
    (s.raiseError code).blk.pending = none := rfl
@[simp] theorem State.raiseError_peers (s : State) (code : ErrCode) :
    (s.raiseError code).peers = s.peers := rfl
@[simp] theorem State.raiseError_mem (s : State) (code : ErrCode) :
    (s.raiseError code).mem = s.mem := rfl
@[simp] theorem State.raiseError_memSize (s : State) (code : ErrCode) :
    (s.raiseError code).memSize = s.memSize := rfl
@[simp] theorem State.raiseError_encMode (s : State) (code : ErrCode) :
    (s.raiseError code).encMode = s.encMode := rfl
@[simp] theorem State.raiseError_script (s : State) (code : ErrCode) :
    (s.raiseError code).script = s.script := rfl
@[simp] theorem State.raiseError_rdata (s : State) (code : ErrCode) :
    (s.raiseError code).rdata = s.rdata := rfl
@[simp] theorem State.raiseError_draws (s : State) (code : ErrCode) :
    (s.raiseError code).draws = s.draws := rfl

@[simp] theorem State.setResult_blk_regBase (s : State) (v : Word) :
    (s.setResult v).blk.regBase = s.blk.regBase := rfl
@[simp] theorem State.setResult_blk_cmd (s : State) (v : Word) :
    (s.setResult v).blk.cmd = s.blk.cmd := rfl
@[simp] theorem State.setResult_blk_status (s : State) (v : Word) :
    (s.setResult v).blk.status = s.blk.status := rfl
@[simp] theorem State.setResult_blk_src (s : State) (v : Word) :
    (s.setResult v).blk.src = s.blk.src := rfl
@[simp] theorem State.setResult_blk_srcLen (s : State) (v : Word) :
    (s.setResult v).blk.srcLen = s.blk.srcLen := rfl
@[simp] theorem State.setResult_blk_dst (s : State) (v : Word) :
    (s.setResult v).blk.dst = s.blk.dst := rfl
@[simp] theorem State.setResult_blk_dstLen (s : State) (v : Word) :
    (s.setResult v).blk.dstLen = s.blk.dstLen := rfl
@[simp] theorem State.setResult_blk_key (s : State) (v : Word) :
    (s.setResult v).blk.key = s.blk.key := rfl
@[simp] theorem State.setResult_blk_arg (s : State) (v : Word) :
    (s.setResult v).blk.arg = s.blk.arg := rfl
@[simp] theorem State.setResult_blk_result (s : State) (v : Word) :
    (s.setResult v).blk.result = v := rfl
@[simp] theorem State.setResult_blk_outLen (s : State) (v : Word) :
    (s.setResult v).blk.outLen = s.blk.outLen := rfl
@[simp] theorem State.setResult_blk_prng (s : State) (v : Word) :
    (s.setResult v).blk.prng = s.blk.prng := rfl
@[simp] theorem State.setResult_blk_pending (s : State) (v : Word) :
    (s.setResult v).blk.pending = s.blk.pending := rfl
@[simp] theorem State.setResult_peers (s : State) (v : Word) :
    (s.setResult v).peers = s.peers := rfl
@[simp] theorem State.setResult_mem (s : State) (v : Word) :
    (s.setResult v).mem = s.mem := rfl
@[simp] theorem State.setResult_memSize (s : State) (v : Word) :
    (s.setResult v).memSize = s.memSize := rfl
@[simp] theorem State.setResult_encMode (s : State) (v : Word) :
    (s.setResult v).encMode = s.encMode := rfl
@[simp] theorem State.setResult_script (s : State) (v : Word) :
    (s.setResult v).script = s.script := rfl
@[simp] theorem State.setResult_rdata (s : State) (v : Word) :
    (s.setResult v).rdata = s.rdata := rfl
@[simp] theorem State.setResult_draws (s : State) (v : Word) :
    (s.setResult v).draws = s.draws := rfl

@[simp] theorem State.setOutLen_blk_regBase (s : State) (v : Word) :
    (s.setOutLen v).blk.regBase = s.blk.regBase := rfl
@[simp] theorem State.setOutLen_blk_cmd (s : State) (v : Word) :
    (s.setOutLen v).blk.cmd = s.blk.cmd := rfl
@[simp] theorem State.setOutLen_blk_status (s : State) (v : Word) :
    (s.setOutLen v).blk.status = s.blk.status := rfl
@[simp] theorem State.setOutLen_blk_src (s : State) (v : Word) :
    (s.setOutLen v).blk.src = s.blk.src := rfl
@[simp] theorem State.setOutLen_blk_srcLen (s : State) (v : Word) :
    (s.setOutLen v).blk.srcLen = s.blk.srcLen := rfl
@[simp] theorem State.setOutLen_blk_dst (s : State) (v : Word) :
    (s.setOutLen v).blk.dst = s.blk.dst := rfl
@[simp] theorem State.setOutLen_blk_dstLen (s : State) (v : Word) :
    (s.setOutLen v).blk.dstLen = s.blk.dstLen := rfl
@[simp] theorem State.setOutLen_blk_key (s : State) (v : Word) :
    (s.setOutLen v).blk.key = s.blk.key := rfl
@[simp] theorem State.setOutLen_blk_arg (s : State) (v : Word) :
    (s.setOutLen v).blk.arg = s.blk.arg := rfl
@[simp] theorem State.setOutLen_blk_result (s : State) (v : Word) :
    (s.setOutLen v).blk.result = s.blk.result := rfl
@[simp] theorem State.setOutLen_blk_outLen (s : State) (v : Word) :
    (s.setOutLen v).blk.outLen = v := rfl
@[simp] theorem State.setOutLen_blk_prng (s : State) (v : Word) :
    (s.setOutLen v).blk.prng = s.blk.prng := rfl
@[simp] theorem State.setOutLen_blk_pending (s : State) (v : Word) :
    (s.setOutLen v).blk.pending = s.blk.pending := rfl
@[simp] theorem State.setOutLen_peers (s : State) (v : Word) :
    (s.setOutLen v).peers = s.peers := rfl
@[simp] theorem State.setOutLen_mem (s : State) (v : Word) :
    (s.setOutLen v).mem = s.mem := rfl
@[simp] theorem State.setOutLen_memSize (s : State) (v : Word) :
    (s.setOutLen v).memSize = s.memSize := rfl
@[simp] theorem State.setOutLen_encMode (s : State) (v : Word) :
    (s.setOutLen v).encMode = s.encMode := rfl
@[simp] theorem State.setOutLen_script (s : State) (v : Word) :
    (s.setOutLen v).script = s.script := rfl
@[simp] theorem State.setOutLen_rdata (s : State) (v : Word) :
    (s.setOutLen v).rdata = s.rdata := rfl
@[simp] theorem State.setOutLen_draws (s : State) (v : Word) :
    (s.setOutLen v).draws = s.draws := rfl

@[simp] theorem State.setPrng_blk_regBase (s : State) (v : Word) :
    (s.setPrng v).blk.regBase = s.blk.regBase := rfl
@[simp] theorem State.setPrng_blk_cmd (s : State) (v : Word) :
    (s.setPrng v).blk.cmd = s.blk.cmd := rfl
@[simp] theorem State.setPrng_blk_status (s : State) (v : Word) :
    (s.setPrng v).blk.status = s.blk.status := rfl
@[simp] theorem State.setPrng_blk_src (s : State) (v : Word) :
    (s.setPrng v).blk.src = s.blk.src := rfl
@[simp] theorem State.setPrng_blk_srcLen (s : State) (v : Word) :
    (s.setPrng v).blk.srcLen = s.blk.srcLen := rfl
@[simp] theorem State.setPrng_blk_dst (s : State) (v : Word) :
    (s.setPrng v).blk.dst = s.blk.dst := rfl
@[simp] theorem State.setPrng_blk_dstLen (s : State) (v : Word) :
    (s.setPrng v).blk.dstLen = s.blk.dstLen := rfl
@[simp] theorem State.setPrng_blk_key (s : State) (v : Word) :
    (s.setPrng v).blk.key = s.blk.key := rfl
@[simp] theorem State.setPrng_blk_arg (s : State) (v : Word) :
    (s.setPrng v).blk.arg = s.blk.arg := rfl
@[simp] theorem State.setPrng_blk_result (s : State) (v : Word) :
    (s.setPrng v).blk.result = s.blk.result := rfl
@[simp] theorem State.setPrng_blk_outLen (s : State) (v : Word) :
    (s.setPrng v).blk.outLen = s.blk.outLen := rfl
@[simp] theorem State.setPrng_blk_prng (s : State) (v : Word) :
    (s.setPrng v).blk.prng = v.setWidth 31 := rfl
@[simp] theorem State.setPrng_blk_pending (s : State) (v : Word) :
    (s.setPrng v).blk.pending = s.blk.pending := rfl
@[simp] theorem State.setPrng_peers (s : State) (v : Word) :
    (s.setPrng v).peers = s.peers := rfl
@[simp] theorem State.setPrng_mem (s : State) (v : Word) :
    (s.setPrng v).mem = s.mem := rfl
@[simp] theorem State.setPrng_memSize (s : State) (v : Word) :
    (s.setPrng v).memSize = s.memSize := rfl
@[simp] theorem State.setPrng_encMode (s : State) (v : Word) :
    (s.setPrng v).encMode = s.encMode := rfl
@[simp] theorem State.setPrng_script (s : State) (v : Word) :
    (s.setPrng v).script = s.script := rfl
@[simp] theorem State.setPrng_rdata (s : State) (v : Word) :
    (s.setPrng v).rdata = s.rdata := rfl
@[simp] theorem State.setPrng_draws (s : State) (v : Word) :
    (s.setPrng v).draws = s.draws := rfl

@[simp] theorem State.storeBytes_blk_regBase (s : State) (a : Nat) (bytes : List Byte) :
    (s.storeBytes a bytes).blk.regBase = s.blk.regBase := rfl
@[simp] theorem State.storeBytes_blk_cmd (s : State) (a : Nat) (bytes : List Byte) :
    (s.storeBytes a bytes).blk.cmd = s.blk.cmd := rfl
@[simp] theorem State.storeBytes_blk_status (s : State) (a : Nat) (bytes : List Byte) :
    (s.storeBytes a bytes).blk.status = s.blk.status := rfl
@[simp] theorem State.storeBytes_blk_src (s : State) (a : Nat) (bytes : List Byte) :
    (s.storeBytes a bytes).blk.src = s.blk.src := rfl
@[simp] theorem State.storeBytes_blk_srcLen (s : State) (a : Nat) (bytes : List Byte) :
    (s.storeBytes a bytes).blk.srcLen = s.blk.srcLen := rfl
@[simp] theorem State.storeBytes_blk_dst (s : State) (a : Nat) (bytes : List Byte) :
    (s.storeBytes a bytes).blk.dst = s.blk.dst := rfl
@[simp] theorem State.storeBytes_blk_dstLen (s : State) (a : Nat) (bytes : List Byte) :
    (s.storeBytes a bytes).blk.dstLen = s.blk.dstLen := rfl
@[simp] theorem State.storeBytes_blk_key (s : State) (a : Nat) (bytes : List Byte) :
    (s.storeBytes a bytes).blk.key = s.blk.key := rfl
@[simp] theorem State.storeBytes_blk_arg (s : State) (a : Nat) (bytes : List Byte) :
    (s.storeBytes a bytes).blk.arg = s.blk.arg := rfl
@[simp] theorem State.storeBytes_blk_result (s : State) (a : Nat) (bytes : List Byte) :
    (s.storeBytes a bytes).blk.result = s.blk.result := rfl
@[simp] theorem State.storeBytes_blk_outLen (s : State) (a : Nat) (bytes : List Byte) :
    (s.storeBytes a bytes).blk.outLen = s.blk.outLen := rfl
@[simp] theorem State.storeBytes_blk_prng (s : State) (a : Nat) (bytes : List Byte) :
    (s.storeBytes a bytes).blk.prng = s.blk.prng := rfl
@[simp] theorem State.storeBytes_blk_pending (s : State) (a : Nat) (bytes : List Byte) :
    (s.storeBytes a bytes).blk.pending = s.blk.pending := rfl
@[simp] theorem State.storeBytes_peers (s : State) (a : Nat) (bytes : List Byte) :
    (s.storeBytes a bytes).peers = s.peers := rfl
@[simp] theorem State.storeBytes_mem (s : State) (a : Nat) (bytes : List Byte) :
    (s.storeBytes a bytes).mem = s.mem.writeBytes a bytes := rfl
@[simp] theorem State.storeBytes_memSize (s : State) (a : Nat) (bytes : List Byte) :
    (s.storeBytes a bytes).memSize = s.memSize := rfl
@[simp] theorem State.storeBytes_encMode (s : State) (a : Nat) (bytes : List Byte) :
    (s.storeBytes a bytes).encMode = s.encMode := rfl
@[simp] theorem State.storeBytes_script (s : State) (a : Nat) (bytes : List Byte) :
    (s.storeBytes a bytes).script = s.script := rfl
@[simp] theorem State.storeBytes_rdata (s : State) (a : Nat) (bytes : List Byte) :
    (s.storeBytes a bytes).rdata = s.rdata := rfl
@[simp] theorem State.storeBytes_draws (s : State) (a : Nat) (bytes : List Byte) :
    (s.storeBytes a bytes).draws = s.draws := rfl

@[simp] theorem Block.accept_regBase (b : Block) (w : Word) : (b.accept w).regBase = b.regBase := rfl
@[simp] theorem Block.accept_cmd (b : Block) (w : Word) : (b.accept w).cmd = w := rfl
@[simp] theorem Block.accept_status (b : Block) (w : Word) : (b.accept w).status = statusAccepted := rfl
@[simp] theorem Block.accept_src (b : Block) (w : Word) : (b.accept w).src = b.src := rfl
@[simp] theorem Block.accept_srcLen (b : Block) (w : Word) : (b.accept w).srcLen = b.srcLen := rfl
@[simp] theorem Block.accept_dst (b : Block) (w : Word) : (b.accept w).dst = b.dst := rfl
@[simp] theorem Block.accept_dstLen (b : Block) (w : Word) : (b.accept w).dstLen = b.dstLen := rfl
@[simp] theorem Block.accept_key (b : Block) (w : Word) : (b.accept w).key = b.key := rfl
@[simp] theorem Block.accept_arg (b : Block) (w : Word) : (b.accept w).arg = b.arg := rfl
@[simp] theorem Block.accept_result (b : Block) (w : Word) : (b.accept w).result = b.result := rfl
@[simp] theorem Block.accept_outLen (b : Block) (w : Word) : (b.accept w).outLen = b.outLen := rfl
@[simp] theorem Block.accept_prng (b : Block) (w : Word) : (b.accept w).prng = b.prng := rfl
@[simp] theorem Block.accept_pending (b : Block) (w : Word) : (b.accept w).pending = some w := rfl

@[simp] theorem State.finish_blk_regBase (s : State) (code : ErrCode) :
    (s.finish code).blk.regBase = s.blk.regBase := by cases code <;> rfl
@[simp] theorem State.finish_blk_cmd (s : State) (code : ErrCode) :
    (s.finish code).blk.cmd = s.blk.cmd := by cases code <;> rfl
@[simp] theorem State.finish_blk_status (s : State) (code : ErrCode) :
    (s.finish code).blk.status = statusCompleted code := by cases code <;> rfl
@[simp] theorem State.finish_blk_src (s : State) (code : ErrCode) :
    (s.finish code).blk.src = s.blk.src := by cases code <;> rfl
@[simp] theorem State.finish_blk_srcLen (s : State) (code : ErrCode) :
    (s.finish code).blk.srcLen = s.blk.srcLen := by cases code <;> rfl
@[simp] theorem State.finish_blk_dst (s : State) (code : ErrCode) :
    (s.finish code).blk.dst = s.blk.dst := by cases code <;> rfl
@[simp] theorem State.finish_blk_dstLen (s : State) (code : ErrCode) :
    (s.finish code).blk.dstLen = s.blk.dstLen := by cases code <;> rfl
@[simp] theorem State.finish_blk_key (s : State) (code : ErrCode) :
    (s.finish code).blk.key = s.blk.key := by cases code <;> rfl
@[simp] theorem State.finish_blk_arg (s : State) (code : ErrCode) :
    (s.finish code).blk.arg = s.blk.arg := by cases code <;> rfl
@[simp] theorem State.finish_blk_result (s : State) (code : ErrCode) :
    (s.finish code).blk.result = s.blk.result := by cases code <;> rfl
@[simp] theorem State.finish_blk_outLen (s : State) (code : ErrCode) :
    (s.finish code).blk.outLen = s.blk.outLen := by cases code <;> rfl
@[simp] theorem State.finish_blk_prng (s : State) (code : ErrCode) :
    (s.finish code).blk.prng = s.blk.prng := by cases code <;> rfl
@[simp] theorem State.finish_blk_pending (s : State) (code : ErrCode) :
    (s.finish code).blk.pending = none := by cases code <;> rfl
@[simp] theorem State.finish_peers (s : State) (code : ErrCode) :
    (s.finish code).peers = s.peers := by cases code <;> rfl
@[simp] theorem State.finish_mem (s : State) (code : ErrCode) :
    (s.finish code).mem = s.mem := by cases code <;> rfl
@[simp] theorem State.finish_memSize (s : State) (code : ErrCode) :
    (s.finish code).memSize = s.memSize := by cases code <;> rfl
@[simp] theorem State.finish_encMode (s : State) (code : ErrCode) :
    (s.finish code).encMode = s.encMode := by cases code <;> rfl
@[simp] theorem State.finish_script (s : State) (code : ErrCode) :
    (s.finish code).script = s.script := by cases code <;> rfl
@[simp] theorem State.finish_rdata (s : State) (code : ErrCode) :
    (s.finish code).rdata = s.rdata := by cases code <;> rfl
@[simp] theorem State.finish_draws (s : State) (code : ErrCode) :
    (s.finish code).draws = s.draws := by cases code <;> rfl

@[simp] theorem Block.reset_regBase (base : Nat) : (Block.reset base).regBase = base := rfl
@[simp] theorem Block.reset_cmd (base : Nat) : (Block.reset base).cmd = 0 := rfl
@[simp] theorem Block.reset_status (base : Nat) : (Block.reset base).status = 0 := rfl
@[simp] theorem Block.reset_src (base : Nat) : (Block.reset base).src = 0 := rfl
@[simp] theorem Block.reset_srcLen (base : Nat) : (Block.reset base).srcLen = 0 := rfl
@[simp] theorem Block.reset_dst (base : Nat) : (Block.reset base).dst = 0 := rfl
@[simp] theorem Block.reset_dstLen (base : Nat) : (Block.reset base).dstLen = 0 := rfl
@[simp] theorem Block.reset_key (base : Nat) : (Block.reset base).key = 0 := rfl
@[simp] theorem Block.reset_arg (base : Nat) : (Block.reset base).arg = 0 := rfl
@[simp] theorem Block.reset_result (base : Nat) : (Block.reset base).result = 0 := rfl
@[simp] theorem Block.reset_outLen (base : Nat) : (Block.reset base).outLen = 0 := rfl
@[simp] theorem Block.reset_prng (base : Nat) : (Block.reset base).prng = 1 := rfl
@[simp] theorem Block.reset_pending (base : Nat) : (Block.reset base).pending = none := rfl

end Sys2Proof.Machine
end

