-- ==== Sys2Proof/Laws/Ops.lean ====
section
/-! SUPPORT. What the shared operations can do: the operand checks, the life cycle of a command, its
completions, and the reads and writes of registers. -/

namespace Sys2Proof.Machine

theorem OperandRange.valid_iff (r : OperandRange) (memSize : Nat) :
    r.valid memSize = true ↔ RangeOk r.addr r.len memSize := by
  unfold OperandRange.valid RangeOk
  split <;> simp_all

theorem OperandRange.overlaps_iff (r q : OperandRange) :
    r.overlaps q = true ↔ ¬ RangesApart r.addr r.len q.addr q.len := by
  unfold OperandRange.overlaps RangesApart
  split
  · simp_all
  · split
    · simp_all
    · simp only [Bool.and_eq_true, decide_eq_true_eq]
      omega

theorem OperandRange.overlaps_comm (r q : OperandRange) : r.overlaps q = q.overlaps r := by
  rw [Bool.eq_iff_iff, OperandRange.overlaps_iff, OperandRange.overlaps_iff]
  unfold RangesApart
  omega

theorem rangesConflict_comm (rs qs : List OperandRange) : rangesConflict rs qs = rangesConflict qs rs := by
  rw [Bool.eq_iff_iff]
  simp only [rangesConflict, List.any_eq_true, Bool.and_eq_true, Bool.or_eq_true]
  constructor <;> rintro ⟨r, hr, q, hq, ho, hw⟩ <;>
    exact ⟨q, hq, r, hr, by rw [OperandRange.overlaps_comm]; exact ho, hw.symm⟩

/-- Everything the operand checks can answer (R144, R336). -/
theorem operandError_cases (i : Instr) (b : Block) (memSize : Nat) :
    (operandError i b memSize = some .range ∧ ∃ r ∈ operandRanges i b, r.valid memSize = false) ∨
    (operandError i b memSize = some .overlap ∧ (∀ r ∈ operandRanges i b, r.valid memSize = true) ∧
      ∃ p ∈ overlapPairs i b, p.1.overlaps p.2 = true) ∨
    (operandError i b memSize = some .capacity ∧ (∀ r ∈ operandRanges i b, r.valid memSize = true) ∧
      (∀ p ∈ overlapPairs i b, p.1.overlaps p.2 = false) ∧ capacityMissing i b = true) ∨
    (operandError i b memSize = none ∧ (∀ r ∈ operandRanges i b, r.valid memSize = true) ∧
      (∀ p ∈ overlapPairs i b, p.1.overlaps p.2 = false) ∧ capacityMissing i b = false) := by
  unfold operandError
  split
  · rename_i h
    exact Or.inl ⟨rfl, by simpa using h⟩
  · rename_i h
    have hr : ∀ r ∈ operandRanges i b, r.valid memSize = true := by simpa using h
    split
    · rename_i h
      refine Or.inr (Or.inl ⟨rfl, hr, ?_⟩)
      obtain ⟨p, hp, ho⟩ := List.any_eq_true.mp h
      exact ⟨p, hp, ho⟩
    · rename_i h
      have hp : ∀ p ∈ overlapPairs i b, p.1.overlaps p.2 = false := by
        intro p hp
        by_contra hc
        exact h (List.any_eq_true.mpr ⟨p, hp, by simpa using hc⟩)
      split
      · rename_i h
        exact Or.inr (Or.inr (Or.inl ⟨rfl, hr, hp, h⟩))
      · rename_i h
        exact Or.inr (Or.inr (Or.inr ⟨rfl, hr, hp, by simpa using h⟩))

@[simp] theorem State.finish_none (s : State) : s.finish .none = s.complete := rfl

/-- Everything the life cycle of a command can do (R143 to R145, R333). -/
theorem State.runCommand_cases (i : Instr) (s : State) (operation : State → State × ErrCode) :
    (∃ code, operandError i s.blk s.memSize = some code ∧ s.runCommand i operation = s.raiseError code) ∨
    (operandError i s.blk s.memSize = none ∧
      s.runCommand i operation = (operation s).1.finish (operation s).2) := by
  unfold State.runCommand
  split
  · rename_i code h
    exact Or.inl ⟨code, h, rfl⟩
  · rename_i h
    exact Or.inr ⟨h, rfl⟩

theorem State.runCommand_of_error {i : Instr} {s : State} {code : ErrCode}
    (h : operandError i s.blk s.memSize = some code) (operation : State → State × ErrCode) :
    s.runCommand i operation = s.raiseError code := by
  simp [State.runCommand, h]

theorem State.runCommand_of_ok {i : Instr} {s : State} (h : operandError i s.blk s.memSize = none)
    (operation : State → State × ErrCode) :
    s.runCommand i operation = (operation s).1.finish (operation s).2 := by
  simp [State.runCommand, h]

@[simp] theorem State.length_sourceBytes (s : State) : s.sourceBytes.length = s.blk.srcLen.toNat := by
  simp [State.sourceBytes]

@[simp] theorem State.length_keyBytes (s : State) : s.keyBytes.length = keyLen := by
  simp [State.keyBytes]

/-- The value a host write leaves in `PRNG_STATE` is never the forbidden 0 (R44). -/
theorem prngOfHostWrite_ne_zero (w : Word) : prngOfHostWrite w ≠ 0#31 := by
  unfold prngOfHostWrite
  split
  · decide
  · assumption

@[simp] theorem Block.writeRegister_pending (b : Block) (v : Word) (r : Option RegName) :
    (b.writeRegister v r).pending = b.pending := by
  rcases r with _ | r
  · rfl
  · cases r <;> rfl

@[simp] theorem Block.writeRegister_status (b : Block) (v : Word) (r : Option RegName) :
    (b.writeRegister v r).status = b.status := by
  rcases r with _ | r
  · rfl
  · cases r <;> rfl

@[simp] theorem Block.writeRegister_regBase (b : Block) (v : Word) (r : Option RegName) :
    (b.writeRegister v r).regBase = b.regBase := by
  rcases r with _ | r
  · rfl
  · cases r <;> rfl

@[simp] theorem Block.writeRegister_cmd (b : Block) (v : Word) (r : Option RegName) :
    (b.writeRegister v r).cmd = b.cmd := by
  rcases r with _ | r
  · rfl
  · cases r <;> rfl

@[simp] theorem Block.pendingRanges_of_none {b : Block} (h : b.pending = none) : b.pendingRanges = [] := by
  simp [Block.pendingRanges, h]

end Sys2Proof.Machine
end

