-- ==== Sys2Proof/Laws/Exec.lean ====
section
/-! SUPPORT. What a command can do: each one runs its operation after the shared checks, and always
answers a next state. -/

namespace Sys2Proof.Machine

/-- The operation each command runs once its checks pass. -/
def operationOf : Instr → State → State × ErrCode
  | .nop, s => (s, .none)
  | .crc32, s => (s.setResult (crc32 s.sourceBytes), .none)
  | .seed, s => ((s.setPrng (condition s.blk.arg)).setResult (condition s.blk.arg), .none)
  | .next, s => ((s.setPrng (prngNext s.blk.prngWord)).setResult (prngNext s.blk.prngWord), .none)
  | .fill, s =>
    ((s.storeBytes s.blk.dst.toNat (prngFill s.blk.dstLen.toNat s.blk.prngWord)).setPrng
      (prngAfter s.blk.dstLen.toNat s.blk.prngWord), .none)
  | .keygenAdk, s => (s.deliverKey (makeKey [] false .adk), .none)
  | .keygenAdkR, s => (s.deliverKey (makeKey s.sourceBytes true .adk), .none)
  | .keygenDng, s => (s.deliverKey (makeKey [] false .dng), .none)
  | .keygenDngR, s => (s.deliverKey (makeKey s.sourceBytes true .dng), .none)
  | .obf, s => (s.storeBytes s.blk.src.toNat (obfuscate s.sourceBytes s.keyBytes), .none)
  | .lzd, s =>
    let d := lzssDecode s.sourceBytes s.blk.dstLen.toNat
    ((s.storeBytes s.blk.dst.toNat d.bytes).setOutLen (BitVec.ofNat 32 d.bytes.length), d.code)
  | .lze, s =>
    let e := s.encoded s.sourceBytes
    (((s.storeBytes s.blk.dst.toNat e).setOutLen (BitVec.ofNat 32 e.length)).afterEncode, .none)

/-- Every meaning is its operation inside the shared life cycle. -/
theorem exec_eq_runCommand (i : Instr) (s : State) : exec i s = .next (s.runCommand i (operationOf i)) := by
  cases i <;> rfl

/-- A command whose operand checks fail only raises. -/
theorem exec_of_error {i : Instr} {s : State} {code : ErrCode}
    (h : operandError i s.blk s.memSize = some code) : exec i s = .next (s.raiseError code) := by
  rw [exec_eq_runCommand, State.runCommand_of_error h]

/-- A command whose operand checks pass runs its operation and completes with its code. -/
theorem exec_of_ok {i : Instr} {s : State} (h : operandError i s.blk s.memSize = none) :
    exec i s = .next ((operationOf i s).1.finish (operationOf i s).2) := by
  rw [exec_eq_runCommand, State.runCommand_of_ok h]

@[simp] theorem State.afterEncode_blk (s : State) : s.afterEncode.blk = s.blk := by
  unfold State.afterEncode; split <;> rfl

@[simp] theorem State.afterEncode_peers (s : State) : s.afterEncode.peers = s.peers := by
  unfold State.afterEncode; split <;> rfl

@[simp] theorem State.afterEncode_mem (s : State) : s.afterEncode.mem = s.mem := by
  unfold State.afterEncode; split <;> rfl

@[simp] theorem State.afterEncode_memSize (s : State) : s.afterEncode.memSize = s.memSize := by
  unfold State.afterEncode; split <;> rfl

@[simp] theorem State.afterEncode_encMode (s : State) : s.afterEncode.encMode = s.encMode := by
  unfold State.afterEncode; split <;> rfl

@[simp] theorem State.afterEncode_script (s : State) : s.afterEncode.script = s.script := by
  unfold State.afterEncode; split <;> rfl

@[simp] theorem State.afterEncode_rdata (s : State) : s.afterEncode.rdata = s.rdata := by
  unfold State.afterEncode; split <;> rfl

@[simp] theorem length_prngFill (n : Nat) (g : Word) : (prngFill n g).length = n := by
  induction n generalizing g with
  | zero => rfl
  | succ n ih => simp [prngFill, ih]

@[simp] theorem length_makeKey (name : List Byte) (randomize : Bool) (game : Game) :
    (makeKey name randomize game).length = keyLen := by
  have hk : (keyConst game).length = keyLen := by cases game <;> rfl
  unfold makeKey
  split <;> simp [hk]

@[simp] theorem length_passBLoop (d : ObfDraws) (key : List Byte) (n i : Nat) (data : List Byte) :
    (passBLoop d key n i data).length = data.length := by
  induction n generalizing i data with
  | zero => rfl
  | succ n ih => unfold passBLoop; split <;> simp [ih]

@[simp] theorem length_obfuscate (data key : List Byte) : (obfuscate data key).length = data.length := by
  unfold obfuscate
  split
  · rfl
  · simp [passA]

end Sys2Proof.Machine
end

