-- ==== Sys2Proof/Laws/PerInstr.lean ====
section
/-! SUPPORT. A fact about every command as syntax, one lemma per constructor: the fields its word is
encoded with are well formed (spec/30_encoding.md R101, R104), and the encoder writes exactly them. -/

namespace Sys2Proof.Laws.FieldsLegal

def Statement (i : Instr) : Prop :=
  i.wellFormed = true ∧ (encodeFields i).wellFormed = true ∧ fieldsOfWord (encode i) = encodeFields i

theorem nop : Statement .nop := ⟨rfl, by decide, by decide⟩
theorem crc32 : Statement .crc32 := ⟨rfl, by decide, by decide⟩
theorem seed : Statement .seed := ⟨rfl, by decide, by decide⟩
theorem next : Statement .next := ⟨rfl, by decide, by decide⟩
theorem fill : Statement .fill := ⟨rfl, by decide, by decide⟩
theorem keygenAdk : Statement .keygenAdk := ⟨rfl, by decide, by decide⟩
theorem keygenAdkR : Statement .keygenAdkR := ⟨rfl, by decide, by decide⟩
theorem keygenDng : Statement .keygenDng := ⟨rfl, by decide, by decide⟩
theorem keygenDngR : Statement .keygenDngR := ⟨rfl, by decide, by decide⟩
theorem obf : Statement .obf := ⟨rfl, by decide, by decide⟩
theorem lzd : Statement .lzd := ⟨rfl, by decide, by decide⟩
theorem lze : Statement .lze := ⟨rfl, by decide, by decide⟩

end Sys2Proof.Laws.FieldsLegal
end

