-- ==== Sys2Proof/Laws/Platform.lean ====
section
/-! SUPPORT. What the moves of a schedule can do: which instance comes into focus, and one lemma per move
that says everything it can answer. -/

namespace Sys2Proof.Machine

/-- Bringing an instance to the front keeps the instances, and the one in front is one the test picks. -/
theorem swapOut_spec {pick : Block → Bool} {b : Block} {l : List Block} {r : Block × List Block}
    (h : swapOut pick b l = some r) : pick r.1 = true ∧ (r.1 :: r.2).Perm (b :: l) := by
  induction l generalizing r with
  | nil => simp [swapOut] at h
  | cons p ps ih =>
    unfold swapOut at h
    split at h
    · rename_i hp
      obtain rfl := Option.some.inj h
      exact ⟨hp, List.Perm.swap _ _ _⟩
    · obtain ⟨q, hq, rfl⟩ := Option.map_eq_some_iff.mp h
      obtain ⟨h1, h2⟩ := ih hq
      refine ⟨h1, ?_⟩
      calc (q.1 :: p :: q.2).Perm (p :: q.1 :: q.2) := List.Perm.swap _ _ _
        _ |>.Perm (p :: b :: ps) := List.Perm.cons p h2
        _ |>.Perm (b :: p :: ps) := List.Perm.swap _ _ _

theorem swapOut_eq_none {pick : Block → Bool} {b : Block} {l : List Block} :
    swapOut pick b l = none ↔ ∀ p ∈ l, pick p = false := by
  induction l with
  | nil => simp [swapOut]
  | cons p ps ih =>
    unfold swapOut
    split
    · rename_i hp; simp [hp]
    · rename_i hp; simp [ih, hp]

/-- Everything a change of focus can do: the instances are kept, the picked one is in front, and nothing
else changes. -/
theorem State.focus_spec {s t : State} {pick : Block → Bool} (h : s.focus pick = some t) :
    pick t.blk = true ∧ t.instances.Perm s.instances ∧
      t = { s with blk := t.blk, peers := t.peers } := by
  unfold State.focus at h
  split at h
  · rename_i hp
    obtain rfl := Option.some.inj h
    exact ⟨hp, List.Perm.refl _, rfl⟩
  · obtain ⟨r, hr, rfl⟩ := Option.map_eq_some_iff.mp h
    obtain ⟨h1, h2⟩ := swapOut_spec hr
    exact ⟨h1, h2, rfl⟩

theorem State.focus_eq_none {s : State} {pick : Block → Bool} :
    s.focus pick = none ↔ ∀ b ∈ s.instances, pick b = false := by
  unfold State.focus State.instances
  split
  · rename_i hp; simp [hp]
  · rename_i hp; simp [swapOut_eq_none, hp]

@[simp] theorem State.focus_self {s : State} {pick : Block → Bool} (h : pick s.blk = true) :
    s.focus pick = some s := by
  simp [State.focus, h]

@[simp] theorem Block.isAt_self (b : Block) : b.isAt b.regBase = true := by
  simp [Block.isAt]

@[simp] theorem Block.owns_register (b : Block) (r : RegName) :
    b.owns (b.regBase + registerOffset r) = true := by
  cases r <;> simp [Block.owns, registerOffset, Config.regSpan]

@[simp] theorem accessSupported_register (base : Nat) (r : RegName) :
    accessSupported base (base + registerOffset r) 4 = true := by
  cases r <;> simp [accessSupported, registerOffset]

@[simp] theorem registerAt_offset (r : RegName) : registerAt (registerOffset r) = some r := by
  cases r <;> rfl

/-- Everything a host write of `CMD` to an idle instance can do (R140, R89). -/
theorem State.writeCmd_cases (s : State) (w : Word) :
    (s.writeCmd w = .fault .instanceConflict ∧ ({ s with blk := s.blk.accept w } : State).conflict = true) ∨
    (s.writeCmd w = .next { s with blk := s.blk.accept w } ∧
      ({ s with blk := s.blk.accept w } : State).conflict = false) := by
  unfold State.writeCmd
  by_cases h : ({ s with blk := s.blk.accept w } : State).conflict = true
  · exact Or.inl ⟨by simp [h], h⟩
  · exact Or.inr ⟨by simp [h], by simpa using h⟩

/-- Everything a host write to a register of the instance in focus can answer (R34, R141). -/
theorem State.hostWrite_cases (s : State) (r : Option RegName) (v : Word) :
    (s.blk.busy = true ∧ s.hostWrite r v = .next s) ∨
    (s.blk.busy = false ∧ r = some .cmd ∧ s.hostWrite r v = s.writeCmd v) ∨
    (s.blk.busy = false ∧ r ≠ some .cmd ∧ s.hostWrite r v = .next { s with blk := s.blk.writeRegister v r }) := by
  unfold State.hostWrite
  by_cases hb : s.blk.busy = true
  · exact Or.inl ⟨hb, by simp [hb]⟩
  · by_cases hr : r = some .cmd
    · exact Or.inr (Or.inl ⟨by simpa using hb, hr, by simp [hb, hr]⟩)
    · exact Or.inr (Or.inr ⟨by simpa using hb, hr, by simp [hb, hr]⟩)

/-- A host read changes nothing but the read data and the draw counter. -/
theorem State.hostRead_frame (s : State) (r : Option RegName) :
    s.hostRead r = { s with rdata := (s.hostRead r).rdata, draws := (s.hostRead r).draws } := by
  unfold State.hostRead
  split <;> rfl

/-- Everything a host store can answer (R70, R88). -/
theorem State.hostStore_cases (s : State) (a : Nat) (bytes : List Byte) :
    (∃ f, s.memoryStop a bytes.length = some f ∧ s.hostStore a bytes = .fault f) ∨
    (s.memoryStop a bytes.length = none ∧ s.hostStore a bytes = .next (s.storeBytes a bytes)) := by
  unfold State.hostStore
  split
  · rename_i f h; exact Or.inl ⟨f, h, rfl⟩
  · rename_i h; exact Or.inr ⟨h, rfl⟩

/-- The bytes a host may access exist and are not in flight. -/
theorem State.memoryStop_none {s : State} {a n : Nat} (h : s.memoryStop a n = none) (i : Nat) (hi : i < n) :
    a + i < s.memSize ∧ s.inFlight (a + i) = false := by
  unfold State.memoryStop at h
  split at h
  · simp at h
  · rename_i h1
    split at h
    · simp at h
    · rename_i h2
      simp only [Bool.not_eq_true, List.any_eq_false, List.mem_range, decide_eq_true_eq] at h1 h2
      exact ⟨by have := h1 i hi; omega, by simpa using h2 i hi⟩

/-- A discarded write range leaves every instance, parameter and move alone (R371). -/
theorem State.discardRange_frame (s : State) (r : OperandRange) :
    s.discardRange r = { s with mem := (s.discardRange r).mem, draws := (s.discardRange r).draws } := by
  unfold State.discardRange
  split <;> rfl

theorem State.discardRanges_frame (rs : List OperandRange) (s : State) :
    rs.foldl State.discardRange s =
      { s with mem := (rs.foldl State.discardRange s).mem, draws := (rs.foldl State.discardRange s).draws } := by
  induction rs generalizing s with
  | nil => rfl
  | cons r rs ih =>
    simp only [List.foldl_cons]
    rw [ih, State.discardRange_frame s r]

/-- Everything the block in focus can do (R140, R143): nothing, an illegal word's completion, or its
command. -/
theorem State.blockStep_cases (s : State) :
    (s.blk.pending = none ∧ s.blockStep = .next s) ∨
    (∃ w e, s.blk.pending = some w ∧ decode w = .error e ∧ s.blockStep = .next (s.raiseError .illegalCmd)) ∨
    (∃ w i, s.blk.pending = some w ∧ decode w = .ok i ∧ s.blockStep = exec i s) := by
  unfold State.blockStep State.execute
  split
  · rename_i w h
    split
    · rename_i i hd; exact Or.inr (Or.inr ⟨w, i, h, hd, rfl⟩)
    · rename_i e hd; exact Or.inr (Or.inl ⟨w, e, h, hd, rfl⟩)
  · rename_i h; exact Or.inl ⟨h, rfl⟩

/-- The block's step never stops. -/
theorem State.blockStep_next (s : State) : ∃ t, s.blockStep = .next t := by
  rcases s.blockStep_cases with ⟨_, h⟩ | ⟨_, _, _, _, h⟩ | ⟨_, i, _, _, h⟩
  · exact ⟨_, h⟩
  · exact ⟨_, h⟩
  · exact ⟨_, by rw [h, exec_eq_runCommand]⟩

/-- One step is the schedule's next move, or the idle step (log 3). -/
theorem step_cases (s : State) :
    (s.script = [] ∧ step s = s.idleStep) ∨
    (∃ m rest, s.script = m :: rest ∧ step s = ({ s with script := rest } : State).move m) := by
  unfold step State.advance
  split
  · rename_i h; exact Or.inl ⟨h, rfl⟩
  · rename_i m rest h; exact Or.inr ⟨m, rest, h, rfl⟩

end Sys2Proof.Machine
end

