-- ==== Sys2Proof/Laws/Ring.lean ====
section
/-! SUPPORT. The ring is an array of `DICT_N` bytes indexed modulo `DICT_N`. -/

namespace Sys2Proof.Machine

theorem Ring.getAt_eq (t : Ring) (p : Nat) :
    t.getAt p = if p % 2 = 0 then t.evens.getAt (p / 2) else t.odds.getAt (p / 2) := by
  cases t <;> simp [Ring.getAt, Ring.evens, Ring.odds]

/-- A byte put in a tree of `2^d` positions reads back, and every other position keeps its byte. -/
theorem Ring.getAt_setAt (d : Nat) (t : Ring) (p q : Nat) (v : Byte) (hp : p < 2 ^ d) (hq : q < 2 ^ d) :
    (Ring.setAt d t p v).getAt q = if q = p then v else t.getAt q := by
  induction d generalizing t p q with
  | zero =>
    have : q = p := by simp at hp hq; omega
    simp [Ring.setAt, Ring.getAt, this]
  | succ d ih =>
    have hp' : p / 2 < 2 ^ d := by rw [pow_succ] at hp; omega
    have hq' : q / 2 < 2 ^ d := by rw [pow_succ] at hq; omega
    rw [Ring.getAt_eq t q]
    unfold Ring.setAt
    split <;> rename_i h1 <;> simp only [Ring.getAt] <;> split <;> rename_i h2
    · rw [ih _ _ _ hp' hq']
      by_cases h : q = p
      · subst h; simp
      · rw [if_neg (by omega), if_neg h]
    · rw [if_neg (by intro h; subst h; exact h2 h1)]
    · rw [if_neg (by intro h; subst h; exact h1 h2)]
    · rw [ih _ _ _ hp' hq']
      by_cases h : q = p
      · subst h; simp
      · rw [if_neg (by omega), if_neg h]

/-- A read of the ring after a write. -/
theorem Ring.read_write (t : Ring) (p q : Nat) (v : Byte) :
    (t.write p v).read q = if q % dictN = p % dictN then v else t.read q := by
  unfold Ring.read Ring.write
  exact Ring.getAt_setAt 10 t _ _ v (Nat.mod_lt _ (by decide)) (Nat.mod_lt _ (by decide))

@[simp] theorem Ring.read_initial (p : Nat) : Ring.initial.read p = dictFill := rfl

@[simp] theorem Ring.read_mod (t : Ring) (p : Nat) : t.read (p % dictN) = t.read p := by
  simp [Ring.read]

end Sys2Proof.Machine
end

