-- ==== Sys2Proof/Tests/Slice0.lean ====
section
/-! SUPPORT. Tests. Expected values are the spec's own (spec/95_test_vectors.md, the worked examples of each
command rule, or a hand decoding of R101), as each comment says. -/

namespace Sys2Proof.Tests

set_option Elab.async false

open Sys2Proof.Machine

/-! ### The checks of WellFormed refuse ill-formed terms -/

theorem test_wf_reserved_op : CommandFields.wellFormed ⟨0x09, false, false, 0⟩ = false := by decide
theorem test_wf_reserved_bits : CommandFields.wellFormed ⟨0x01, false, false, 1⟩ = false := by decide
theorem test_wf_stray_rand : CommandFields.wellFormed ⟨0x01, true, false, 0⟩ = false := by decide
theorem test_wf_stray_game : CommandFields.wellFormed ⟨0x00, false, true, 0⟩ = false := by decide
theorem test_wf_keygen_flags : CommandFields.wellFormed ⟨0x05, true, true, 0⟩ = true := by decide
theorem test_wf_no_memory : Config.Params.wellFormed ⟨0, 0, [], .reference⟩ = false := by decide
theorem test_wf_too_much_memory : Config.Params.wellFormed ⟨2 ^ 32 + 1, 0, [], .reference⟩ = false := by decide
theorem test_wf_unaligned_window : Config.Params.wellFormed ⟨16, 0x20, [], .reference⟩ = false := by decide
theorem test_wf_shared_window : Config.Params.wellFormed ⟨16, 0x40, [0x40], .reference⟩ = false := by decide
theorem test_wf_default : Config.Params.default.wellFormed = true := by decide
theorem test_wf_half_word_write : Move.wellFormed (.writeReg 0x08 2 0) = false := by decide
theorem test_wf_unaligned_write : Move.wellFormed (.writeReg 0x09 4 0) = false := by decide
theorem test_wf_byte_read : Move.wellFormed (.readReg 0x04 1) = false := by decide
theorem test_wf_unaligned_read : Move.wellFormed (.readReg 0x06 4) = false := by decide

/-! ### Decoding, from words written out by R101: reserved [31:10], GAME [9], RAND [8], OP [7:0] -/

theorem test_decode_nop : decodeTableWord 32 0b0000000000000000000000_0_0_00000000 = some .nop := by decide
theorem test_decode_crc32 : decodeTableWord 32 0b0000000000000000000000_0_0_00000001 = some .crc32 := by decide
theorem test_decode_seed : decodeTableWord 32 0b0000000000000000000000_0_0_00000010 = some .seed := by decide
theorem test_decode_next : decodeTableWord 32 0b0000000000000000000000_0_0_00000011 = some .next := by decide
theorem test_decode_fill : decodeTableWord 32 0b0000000000000000000000_0_0_00000100 = some .fill := by decide
theorem test_decode_keygenAdk : decodeTableWord 32 0b0000000000000000000000_0_0_00000101 = some .keygenAdk := by
  decide
theorem test_decode_keygenAdkR : decodeTableWord 32 0b0000000000000000000000_0_1_00000101 = some .keygenAdkR := by
  decide
theorem test_decode_keygenDng : decodeTableWord 32 0b0000000000000000000000_1_0_00000101 = some .keygenDng := by
  decide
theorem test_decode_keygenDngR : decodeTableWord 32 0b0000000000000000000000_1_1_00000101 = some .keygenDngR := by
  decide
theorem test_decode_obf : decodeTableWord 32 0b0000000000000000000000_0_0_00000110 = some .obf := by decide
theorem test_decode_lzd : decodeTableWord 32 0b0000000000000000000000_0_0_00000111 = some .lzd := by decide
theorem test_decode_lze : decodeTableWord 32 0b0000000000000000000000_0_0_00001000 = some .lze := by decide
/-- 95 section 2.8. -/
theorem test_decode_illegal_names :
    [0x00000009, 0x000000FF, 0x80000001, 0x00000405, 0x00000101, 0x00000200].map decode =
      [.error .reservedOp, .error .reservedOp, .error .reservedBits, .error .reservedBits, .error .strayFlag,
        .error .strayFlag] := by decide
theorem test_encode_words :
    [Instr.nop, .crc32, .seed, .next, .fill, .keygenAdk, .keygenAdkR, .keygenDng, .keygenDngR, .obf, .lzd,
      .lze].map encode = [0, 1, 2, 3, 4, 5, 0x105, 0x205, 0x305, 6, 7, 8] := by decide

/-! ### The functions, on vectors of 95 section 2 -/

theorem test_crc_check_value : crc32 [0x31, 0x32, 0x33, 0x34, 0x35, 0x36, 0x37, 0x38, 0x39] = 0xCBF43926 := by
  decide +kernel
/-- 33 bytes 00 .. 20: one block and one tail byte. -/
theorem test_crc_fast_block_and_tail : crcFast ((List.range 33).map (BitVec.ofNat 8)) = 0xE4908305 := by
  decide +kernel
/-- 36 bytes 00 .. 23: one block and one word. -/
theorem test_crc_fast_block_and_word : crcFast ((List.range 36).map (BitVec.ofNat 8)) = 0x25715854 := by
  decide +kernel
theorem test_condition_rows :
    [0x00000000, 0x00000001, 0x00001000, 0x02801400, 0xFF000000, 0x12345678, 0x00FFFFFF, 0x01FFFFFF,
      0xFFFFFFFF].map condition =
    [0x2A801540, 0x0A801541, 0x0A801540, 0x02801400, 0x7F001000, 0x12345678, 0x00FFFFFF, 0x017FEABF,
      0x7FFFEFFF] := by decide +kernel
theorem test_next_rows :
    [0x00000001, 0x000041A7, 0x0000FFFF, 0x00010000, 0x2A801540, 0x7FFFFFFE, 0x7FFFFFFF].map prngNext =
    [0x000041A7, 0x10D63AF1, 0x41A6BE59, 0x41A70000, 0x3EF3328C, 0x7FFFBE58, 0x7FFFFFFF] := by decide +kernel
theorem test_decode_tokens :
    [lzssDecode [] 1, lzssDecode [0x00, 0xEF] 0, lzssDecode [0x01, 0x41] 0, lzssDecode [0x03, 0x41] 1,
      lzssDecode [0x00, 0xF0, 0x30] 3].map (fun d => (d.code, d.bytes)) =
    [(.sizeUnder, []), (.none, []), (.sizeOver, []), (.none, [0x41]), (.none, [0x20, 0x20, 0x20])] := by
  decide +kernel
/-- Length 18, and offset 0xF00 read at 0x300. -/
theorem test_decode_wire_extremes :
    lzssDecode [0x00, 0x00, 0xFF] 18 = { bytes := List.replicate 18 0x20, code := .none } := by decide +kernel
/-- "   x   ". -/
theorem test_encode_spaces :
    lzssEncode [0x20, 0x20, 0x20, 0x78, 0x20, 0x20, 0x20] = [0x02, 0xEF, 0x30, 0x78, 0xEF, 0x30] := by
  decide +kernel
/-- R220 and its use: "a" under DNG. -/
theorem test_key_of_a : makeKey [0x61] true .dng =
    [0xA3, 0x1C, 0xDE, 0x31, 0x48, 0x60, 0x32, 0x3C, 0x7D, 0xFA, 0xA3, 0x0D, 0x2B, 0xEB, 0xB3, 0xC7] := by
  decide +kernel
/-- 95 section 2.5, ADK constant key, n = 20000. -/
theorem test_obf_draws : ((obfDraws (keyConst .adk) 20000).start, (obfDraws (keyConst .adk) 20000).stride,
    (obfDraws (keyConst .adk) 20000).pad1.length, (obfDraws (keyConst .adk) 20000).pad2.length) =
    (7624, 9350, 217, 21) := by decide +kernel

/-! ### One step of each command, from a small state -/

/-- A platform with some bytes at address 0x100 and chosen operand registers, `w` accepted. -/
def placed (w : Word) (bytes : List Byte) (regs : Block → Block) : State :=
  State.commandPlaced
    { State.reset with mem := Memory.writeBytes [] 0x100 bytes, blk := regs State.reset.blk } w

/-- `SRC = 0x100`, `SRC_LEN = n`, `DST = 0x200`, `DST_LEN = m`, `KEY = 0x300`. -/
def operands (n m : Word) (b : Block) : Block :=
  { b with src := 0x100, srcLen := n, dst := 0x200, dstLen := m, key := 0x300 }

/-- What a step leaves: `STATUS`, `RESULT`, `OUT_LEN`, `PRNG_STATE`. -/
def registersAfter (s : State) : Option (List Word) :=
  (nextState (step s)).map (fun t => [t.blk.status, t.blk.result, t.blk.outLen, t.blk.prngWord])

/-- What a step leaves at some addresses from `a` on. -/
def bytesAfter (s : State) (a n : Nat) : Option (List Byte) :=
  (nextState (step s)).map (fun t => t.mem.readBytes a n)

theorem test_nop_step : registersAfter (placed 0 [] id) = some [0x2, 0, 0, 1] := by decide +kernel
/-- R166. -/
theorem test_crc32_step :
    registersAfter (placed 1 [0x31, 0x32, 0x33, 0x34, 0x35, 0x36, 0x37, 0x38, 0x39] (operands 9 0)) =
      some [0x2, 0xCBF43926, 0, 1] := by decide +kernel
/-- 95 section 2.1: `SRC = 0xFFFF`, `SRC_LEN = 2`. -/
theorem test_crc32_range :
    registersAfter (placed 1 [] (fun b => { b with src := 0xFFFF, srcLen := 2 })) = some [0x206, 0, 0, 1] := by
  decide +kernel
/-- R196. -/
theorem test_seed_step :
    registersAfter (placed 2 [] (fun b => { b with arg := 0xCBF43926 })) =
      some [0x2, 0x4BF43926, 0, 0x4BF43926] := by decide +kernel
/-- R197. -/
theorem test_next_step : registersAfter (placed 3 [] id) = some [0x2, 0x000041A7, 0, 0x000041A7] := by
  decide +kernel
/-- R198. -/
theorem test_fill_step : registersAfter (placed 4 [] (operands 0 4)) = some [0x2, 0, 0, 0x3AB50C2A] := by
  decide +kernel
theorem test_fill_bytes :
    bytesAfter (placed 4 [] (operands 0 4)) 0x1FF 6 = some [0x00, 0xA7, 0xF1, 0xD9, 0x2A, 0x00] := by
  decide +kernel
/-- R224. -/
theorem test_keygenAdk_step : registersAfter (placed 0x005 [] (operands 9 0)) = some [0x2, 0xC5622785, 0, 1] := by
  decide +kernel
theorem test_keygenDng_step : registersAfter (placed 0x205 [] (operands 9 0)) = some [0x2, 0xD7E4A7F3, 0, 1] := by
  decide +kernel
/-- R224: "empty.txt". -/
theorem test_keygenAdkR_step :
    registersAfter (placed 0x105 [0x65, 0x6D, 0x70, 0x74, 0x79, 0x2E, 0x74, 0x78, 0x74] (operands 9 0)) =
      some [0x2, 0xCDF58122, 0, 1] := by decide +kernel
/-- 95 section 2.4: "blank.bin". -/
theorem test_keygenDngR_step :
    registersAfter (placed 0x305 [0x62, 0x6C, 0x61, 0x6E, 0x6B, 0x2E, 0x62, 0x69, 0x6E] (operands 9 0)) =
      some [0x2, 0xBA1308FC, 0, 1] := by decide +kernel
/-- R246: the ADK constant key stands at 0x100, the data at 0x300. -/
theorem test_obf_step :
    bytesAfter (placed 6 (keyConst .adk) (fun b => { b with key := 0x100, src := 0x300, srcLen := 4 })) 0x300 5 =
      some [0x0D, 0x67, 0x1E, 0x94, 0x00] := by decide +kernel
/-- R269. -/
theorem test_lzd_step :
    registersAfter (placed 7 [0x01, 0x41, 0xF0, 0x36] (operands 4 10)) = some [0x2, 0, 10, 1] := by decide +kernel
/-- 95 program P5: 15 of 16 bytes, `SIZE_OVER`. -/
theorem test_lzd_partial :
    bytesAfter (placed 7 [0x00, 0xEF, 0x3D] (operands 3 15)) 0x20E 2 = some [0x20, 0x00] := by decide +kernel
/-- R305: "AAAAAAAAAA". -/
theorem test_lze_step :
    bytesAfter (placed 8 (List.replicate 10 0x41) (operands 10 12)) 0x200 5 =
      some [0x01, 0x41, 0xF0, 0x36, 0x00] := by decide +kernel
/-- 95 section 2.7: capacity 8 for 8 bytes. -/
theorem test_lze_capacity :
    registersAfter (placed 8 [] (operands 8 8)) = some [0x406, 0, 0, 1] := by decide +kernel
/-- 95 section 2.8. -/
theorem test_illegal_step : registersAfter (placed 9 [] id) = some [0x106, 0, 0, 1] := by decide +kernel

/-! ### Moves of the host and the platform -/

/-- The state after the moves given, from reset. -/
def played (program : List Move) : Option State :=
  nextState (playProgram program State.reset)

/-- 95 section 2.3. -/
theorem test_prng_write_zero : (played [.writeReg 0x28 4 0x80000000, .readReg 0x28 4]).map (·.rdata) = some 1 := by
  decide +kernel
theorem test_prng_write_ones :
    (played [.writeReg 0x28 4 0xFFFFFFFF, .readReg 0x28 4]).map (·.rdata) = some 0x7FFFFFFF := by decide +kernel
/-- R45. -/
theorem test_reserved_reads_zero : (played [.writeReg 0x2C 4 5, .readReg 0x2C 4]).map (·.rdata) = some 0 := by
  decide +kernel
/-- 95 section 2.8: `STATUS` between acceptance and completion. -/
theorem test_status_while_busy : (played [.writeReg 0x00 4 0, .readReg 0x04 4]).map (·.rdata) = some 1 := by
  decide +kernel
/-- R120, R121: scenario 1's header. -/
theorem test_header_bytes :
    emitHeader ⟨headerMagic, gameTag .adk, 0, 0xCDF58122, 0⟩ =
      [0x12, 0x18, 0x09, 0x06, 0x73, 0x61, 0x64, 0x6B, 0x00, 0x00, 0x00, 0x00, 0x22, 0x81, 0xF5, 0xCD,
        0x00, 0x00, 0x00, 0x00] := by decide +kernel
/-- R354: "a.adk.txt" keys on "a.txt". -/
theorem test_encrypt_key_name :
    encryptKeyName [0x61, 0x2E, 0x61, 0x64, 0x6B, 0x2E, 0x74, 0x78, 0x74] = [0x61, 0x2E, 0x74, 0x78, 0x74] := by
  decide +kernel
/-- R354, one marker: "a.adk.adk.x" is `<stem>.adk.<ext>` with stem "a.adk", and "a.cmp.CMP.x" is
`<stem>.cmp.<ext>` with stem "a.cmp". -/
theorem test_one_marker_removed :
    encryptKeyName [0x61, 0x2E, 0x61, 0x64, 0x6B, 0x2E, 0x61, 0x64, 0x6B, 0x2E, 0x78] =
      [0x61, 0x2E, 0x61, 0x64, 0x6B, 0x2E, 0x78] ∧
    decryptKeyName [0x61, 0x2E, 0x63, 0x6D, 0x70, 0x2E, 0x43, 0x4D, 0x50, 0x2E, 0x78] =
      [0x61, 0x2E, 0x63, 0x6D, 0x70, 0x2E, 0x78] := by
  decide +kernel
/-- R353: "save.S2M". -/
theorem test_randomize_s2m :
    randomizeOf [0x73, 0x61, 0x76, 0x65, 0x2E, 0x53, 0x32, 0x4D] = false := by decide +kernel

end Sys2Proof.Tests
end

