-- ==== Sys2Proof/Tests/Witnesses.lean ====
section
/-! SUPPORT. For each statement with hypotheses, a concrete state and operands that meet them, one
conjunct a clause, at a boundary where the clause has one. -/

namespace Sys2Proof.Tests

set_option Elab.async false

open Sys2Proof.Machine

/-- The platform after reset with chosen operand registers. -/
def withRegs (regs : Block → Block) : State :=
  { State.reset with blk := regs State.reset.blk }

/-- `SRC`, `SRC_LEN`, `DST`, `DST_LEN`, `KEY`. -/
def regs5 (src srcLen dst dstLen key : Word) : State :=
  withRegs (fun b => { b with src := src, srcLen := srcLen, dst := dst, dstLen := dstLen, key := key })

/-- The same with the stream `00 EF 3D` at 0x100. -/
def streamAt (dstLen : Word) : State :=
  { regs5 0x100 3 0x200 dstLen 0 with mem := Memory.writeBytes [] 0x100 [0x00, 0xEF, 0x3D] }

/-- Two instances, at 0 and at 0x40; the second has `FILL` of 16 bytes at 0x200 pending. -/
def twoInstances : State :=
  { State.reset with
    peers := [({ Block.reset 0x40 with dst := 0x200, dstLen := 16 }).accept (encode .fill)] }

/-- `twoInstances` with `SRC`, `SRC_LEN` of the first instance set and a host write of `CRC32` to come. -/
def secondCommand (src srcLen : Word) : State :=
  { twoInstances with
    blk := { twoInstances.blk with src := src, srcLen := srcLen }
    script := [.writeReg 0 4 (encode .crc32)] }

/-- The hypotheses of the command statements, for a state. -/
abbrev SrcOk (s : State) : Prop := RangeOk s.blk.src.toNat s.blk.srcLen.toNat s.memSize
abbrev DstOk (s : State) : Prop := RangeOk s.blk.dst.toNat s.blk.dstLen.toNat s.memSize
abbrev KeyOutOk (s : State) : Prop := s.blk.dst.toNat + 16 ≤ s.memSize
abbrev KeyInOk (s : State) : Prop := s.blk.key.toNat + 16 ≤ s.memSize
abbrev SrcDstApart (s : State) : Prop :=
  RangesApart s.blk.src.toNat s.blk.srcLen.toNat s.blk.dst.toNat s.blk.dstLen.toNat
abbrev SrcKeyOutApart (s : State) : Prop := RangesApart s.blk.src.toNat s.blk.srcLen.toNat s.blk.dst.toNat 16
abbrev SrcKeyInApart (s : State) : Prop := RangesApart s.blk.src.toNat s.blk.srcLen.toNat s.blk.key.toNat 16
abbrev Fits (s : State) : Prop := s.blk.srcLen.toNat + (s.blk.srcLen.toNat + 7) / 8 ≤ s.blk.dstLen.toNat
abbrev DecodeCode (s : State) : ErrCode :=
  (lzssDecode (s.mem.readBytes s.blk.src.toNat s.blk.srcLen.toNat) s.blk.dstLen.toNat).code

theorem witness_EncodedCommandsDecode : Instr.lze.wellFormed = true := by decide

theorem witness_IllegalWordsOnlyComplete :
    decode 0x00000009 = .error .reservedOp ∧ decode 0x00000405 = .error .reservedBits ∧
    decode 0x00000104 = .error .strayFlag ∧ decode 0x00000206 = .error .strayFlag := by decide

theorem witness_StepMakesTheNextMove :
    ({ State.reset with script := [.loadByte 0] } : State).script = .loadByte 0 :: [] := by decide

theorem witness_StepRunsTheDecodedCommand :
    Instr.crc32.wellFormed = true ∧ (placed 1 [] id).blk.pending = some 1 ∧ decode 1 = .ok .crc32 ∧
    (placed 1 [] id).script = [] ∧
    ({ placed 1 [] id with script := [.blockMoves 0] } : State).script =
      .blockMoves (placed 1 [] id).blk.regBase :: [] ∧
    ({ placed 1 [] id with script := [.waitIdle 0] } : State).script =
      .waitIdle (placed 1 [] id).blk.regBase :: [] ∧
    (placed 1 [] id).blk.busy = true := by decide +kernel

theorem witness_StepRunsTheCommandOfAnyInstance :
    ∃ t, twoInstances.focus (Block.isAt 0x40) = some t ∧ t.blk.pending = some 4 ∧ decode 4 = .ok .fill :=
  ⟨_, rfl, by decide +kernel, by decide⟩

theorem witness_NopChangesStatusOnly : (0x00000200 : Word).toNat % 2 ^ 8 = 0 ∧ (0x00000200 : Word) ≠ 0 := by
  decide

theorem witness_Crc32WritesResult :
    SrcOk (regs5 0xFFFF 1 0 0 0) ∧ ¬ SrcOk (regs5 0xFFFF 2 0 0 0) ∧ (regs5 0xFFFFFFFF 0 0 0 0).blk.srcLen = 0 := by
  decide +kernel

theorem witness_SeedConditionsArg :
    popcount31 0x000000FF = 8 ∧ popcount31 0x00FFFFFF = 24 ∧ popcount31 0x80000000 = 0 := by decide +kernel

theorem witness_FillWritesOutputBytes :
    DstOk (regs5 0 0 0xFFFF 1 0) ∧ ¬ DstOk (regs5 0 0 0xFFFF 2 0) ∧ (regs5 0 0 0xFFFFFFFF 0 0).blk.dstLen = 0 := by
  decide +kernel

theorem witness_KeygenConstantKey :
    KeyOutOk (regs5 0 0 0xFFF0 0 0) ∧ (regs5 0 0 0xFFF1 0 0).memSize < (regs5 0 0 0xFFF1 0 0).blk.dst.toNat + 16 := by
  decide +kernel

/-- A name that ends just below the key, a key and then a name that end past `MEM_SIZE`, and a name that
reaches the key's first byte. -/
theorem witness_KeygenRandomizedKey :
    (SrcOk (regs5 0xFFE7 9 0xFFF0 0 0) ∧ KeyOutOk (regs5 0xFFE7 9 0xFFF0 0 0) ∧
      SrcKeyOutApart (regs5 0xFFE7 9 0xFFF0 0 0)) ∧
    ¬ (SrcOk (regs5 0xFFE7 9 0xFFF1 0 0) ∧ KeyOutOk (regs5 0xFFE7 9 0xFFF1 0 0)) ∧
    ¬ (SrcOk (regs5 0xFFF8 9 0x100 0 0) ∧ KeyOutOk (regs5 0xFFF8 9 0x100 0 0)) ∧
    (SrcOk (regs5 0xFFE7 10 0xFFF0 0 0) ∧ KeyOutOk (regs5 0xFFE7 10 0xFFF0 0 0) ∧
      ¬ SrcKeyOutApart (regs5 0xFFE7 10 0xFFF0 0 0)) := by decide +kernel

theorem witness_ObfTransformsInPlace :
    (SrcOk (regs5 0xFFE0 16 0 0 0xFFF0) ∧ KeyInOk (regs5 0xFFE0 16 0 0 0xFFF0) ∧
      SrcKeyInApart (regs5 0xFFE0 16 0 0 0xFFF0)) ∧
    ¬ (SrcOk (regs5 0x300 16 0 0 0xFFF1) ∧ KeyInOk (regs5 0x300 16 0 0 0xFFF1)) ∧
    (SrcOk (regs5 0x300 16 0 0 0x30F) ∧ KeyInOk (regs5 0x300 16 0 0 0x30F) ∧
      ¬ SrcKeyInApart (regs5 0x300 16 0 0 0x30F)) := by decide +kernel

theorem witness_LzdDecodesToDestination :
    (SrcOk (streamAt 16) ∧ DstOk (streamAt 16) ∧ SrcDstApart (streamAt 16) ∧ DecodeCode (streamAt 16) = .none) ∧
    (SrcOk (streamAt 17) ∧ DstOk (streamAt 17) ∧ SrcDstApart (streamAt 17) ∧
      DecodeCode (streamAt 17) = .sizeUnder) ∧
    (SrcOk (streamAt 15) ∧ DstOk (streamAt 15) ∧ SrcDstApart (streamAt 15) ∧
      DecodeCode (streamAt 15) = .sizeOver) ∧
    ¬ (SrcOk (regs5 0x100 3 0xFFF0 17 0) ∧ DstOk (regs5 0x100 3 0xFFF0 17 0)) ∧
    (SrcOk (regs5 0x100 3 0x102 16 0) ∧ DstOk (regs5 0x100 3 0x102 16 0) ∧
      ¬ SrcDstApart (regs5 0x100 3 0x102 16 0)) := by decide +kernel

theorem witness_LzeEncodesToDestination :
    (SrcOk (regs5 0x100 8 0x108 9 0) ∧ DstOk (regs5 0x100 8 0x108 9 0) ∧ SrcDstApart (regs5 0x100 8 0x108 9 0) ∧
      Fits (regs5 0x100 8 0x108 9 0) ∧ (regs5 0x100 8 0x108 9 0).encMode = .reference) ∧
    (SrcOk { regs5 0x100 8 0x108 9 0 with encMode := .relational } ∧
      DstOk { regs5 0x100 8 0x108 9 0 with encMode := .relational } ∧
      SrcDstApart { regs5 0x100 8 0x108 9 0 with encMode := .relational } ∧
      Fits { regs5 0x100 8 0x108 9 0 with encMode := .relational } ∧
      ({ regs5 0x100 8 0x108 9 0 with encMode := .relational } : State).encMode = .relational) ∧
    ¬ (SrcOk (regs5 0x100 8 0xFFF8 9 0) ∧ DstOk (regs5 0x100 8 0xFFF8 9 0)) ∧
    (SrcOk (regs5 0x100 8 0x107 9 0) ∧ DstOk (regs5 0x100 8 0x107 9 0) ∧
      ¬ SrcDstApart (regs5 0x100 8 0x107 9 0)) ∧
    (SrcOk (regs5 0x100 8 0x108 8 0) ∧ DstOk (regs5 0x100 8 0x108 8 0) ∧ SrcDstApart (regs5 0x100 8 0x108 8 0) ∧
      ¬ Fits (regs5 0x100 8 0x108 8 0)) := by decide +kernel

/-- A command that goes through, and for each conditional clause a command outside its list. -/
theorem witness_CommandsKeepOtherRegisters :
    (∃ t, exec .obf (regs5 0x300 4 0 0 0x100) = .next t) ∧ Instr.obf ∉ [Instr.seed, .next, .fill] ∧
    Instr.obf ∉ [Instr.lzd, .lze] ∧
    Instr.obf ∉ [Instr.crc32, .seed, .next, .keygenAdk, .keygenAdkR, .keygenDng, .keygenDngR] :=
  ⟨⟨_, rfl⟩, by decide, by decide, by decide⟩

theorem witness_CommandsKeepOtherMemory :
    (∃ t, exec .fill (regs5 0 0 0x200 4 0) = .next t) ∧ OutsideBytes 0x200 4 0x204 ∧ OutsideBytes 0x200 4 0x1FF :=
  ⟨⟨_, rfl⟩, by decide, by decide⟩

theorem witness_FillStoresExactly :
    (regs5 0 0 0xFFFC 4 0).mem.Wf ∧ DstOk (regs5 0 0 0xFFFC 4 0) ∧ OutsideBytes 0xFFFC 4 0xFFFB := by
  decide +kernel

theorem witness_LzdStoresExactlyWhatItProduced :
    (streamAt 17).mem.Wf ∧ SrcOk (streamAt 17) ∧ DstOk (streamAt 17) ∧ SrcDstApart (streamAt 17) := by
  decide +kernel

theorem witness_ChecksRaiseBeforeAnyWrite :
    (nextState (exec .crc32 (regs5 0xFFFF 2 0 0 0))).map (·.blk.status) = some (statusFailure .range) ∧
    (nextState (exec .lzd (regs5 0x100 3 0x102 16 0))).map (·.blk.status) = some (statusFailure .overlap) ∧
    (nextState (exec .lze (regs5 0x100 8 0x200 8 0))).map (·.blk.status) = some (statusFailure .capacity) ∧
    (nextState (State.reset.execute 9)).map (·.blk.status) = some (statusFailure .illegalCmd) := by
  decide +kernel

theorem witness_OperandChecksInOrder :
    (operandRanges .lze (regs5 0xFFFF 2 0xFFFF 0 0).blk).all (fun r => r.valid 0x10000) = false ∧
    (operandRanges .lze (regs5 0x100 8 0x107 8 0).blk).all (fun r => r.valid 0x10000) = true ∧
    (overlapPairs .lze (regs5 0x100 8 0x107 8 0).blk).all (fun p => !p.1.overlaps p.2) = false ∧
    (overlapPairs .lze (regs5 0x100 8 0x108 8 0).blk).all (fun p => !p.1.overlaps p.2) = true ∧
    capacityMissing .lze (regs5 0x100 8 0x108 8 0).blk = true ∧
    capacityMissing .lze (regs5 0x100 8 0x108 9 0).blk = false := by decide +kernel

theorem witness_LegalStatusFields :
    (Block.reset 0x40).legal = true ∧ ((Block.reset 0).accept 0xFFFFFFFF).legal = true ∧
    (State.reset.failed .sizeOver).blk.legal = true ∧ State.reset.complete.blk.legal = true := by decide +kernel

theorem witness_GeneratorIsParkMiller :
    1 ≤ (0x00000001 : Word).toNat ∧ (0x00000001 : Word).toNat ≤ 0x7FFFFFFE ∧
    1 ≤ (0x7FFFFFFE : Word).toNat ∧ (0x7FFFFFFE : Word).toNat ≤ 0x7FFFFFFE := by decide

theorem witness_ConditionedSeedRange :
    popcount31 0x80000000 = 0 ∧ 8 ≤ popcount31 0x000000FF ∧ popcount31 0x000000FF ≤ 24 ∧
    8 ≤ popcount31 0x00FFFFFF ∧ popcount31 0x00FFFFFF ≤ 24 := by decide +kernel

theorem witness_ObfuscatorByteByByte :
    0 < [(0x00 : Byte)].length ∧
    (obfDraws (keyConst .adk) 1).start ≤ 0 ∧ (0 - (obfDraws (keyConst .adk) 1).start) % 9350 = 0 := by
  decide +kernel

theorem witness_SearchFindsLongestEarliest :
    (lzePrime (lzeStart [0x20, 0x20])).index.length = 17 ∧
    (bestMatch (lzePrime (lzeStart [0x20, 0x20]))).length = 2 ∧ (lzeStart [0x20]).index = [] := by
  decide +kernel

theorem witness_RelationalOutputMeetsContract : ([] : List Byte) = [] := rfl

theorem witness_HeaderRoundTrip :
    (⟨0x06091812, 0x6B646173, 0, 0, 0⟩ : ArchiveHeader).magic = 0x06091812 ∧
    (⟨0x06091812, 0x6B646173, 0, 0, 0⟩ : ArchiveHeader).tag = gameTag .adk ∧
    (⟨0x06091812, 0x30306372, 0, 0, 0⟩ : ArchiveHeader).tag = gameTag .dng := by decide

/-- A second instance is pending on bytes 0x200 to 0x20F; the new command reads up to 0x1FF. -/
theorem witness_CmdWriteIsAccepted :
    (secondCommand 0x1F0 16).script = .writeReg (secondCommand 0x1F0 16).blk.regBase 4 1 :: [] ∧
    statusBusy (secondCommand 0x1F0 16).blk.status = false ∧
    ∀ p ∈ (secondCommand 0x1F0 16).peers,
      rangesConflict ((secondCommand 0x1F0 16).blk.accept 1).pendingRanges p.pendingRanges = false := by
  decide +kernel

theorem witness_WritesWhileBusyIgnored :
    0x3C < 0x40 ∧ 0x3C % 4 = 0 ∧ statusBusy (placed 4 [] id).blk.status = true := by decide +kernel

theorem witness_HostWritesOperandRegisters :
    statusBusy State.reset.blk.status = false ∧
    ∀ k ∈ [0x04, 0x08, 0x0C, 0x10, 0x14, 0x18, 0x1C, 0x20, 0x24],
      ({ State.reset with script := [.writeReg k 4 7] } : State).script =
        .writeReg (State.reset.blk.regBase + k) 4 7 :: [] := by decide +kernel

theorem witness_PrngWriteStoresLegalSeed :
    statusBusy State.reset.blk.status = false ∧
    ({ State.reset with script := [.writeReg 0x28 4 0x80000000] } : State).script =
      .writeReg (State.reset.blk.regBase + 0x28) 4 0x80000000 :: [] ∧
    (0x80000000 : Word) &&& 0x7FFFFFFF#32 = 0 ∧ (0xFFFFFFFF : Word) &&& 0x7FFFFFFF#32 ≠ 0 := by decide +kernel

theorem witness_ReservedOffsetsReadZero : 0x2C ∈ [0x2C, 0x30, 0x34, 0x38, 0x3C] := by decide

theorem witness_ReadsWhileBusy :
    (placed 4 [] id).blk.legal = true ∧ (placed 4 [] id).blk.pending = some 4 ∧
    ∀ k ∈ [0x00, 0x04, 0x08, 0x0C, 0x10, 0x14, 0x18, 0x1C, 0x20, 0x24, 0x28],
      ({ placed 4 [] id with script := [.readReg k 4] } : State).script =
        .readReg ((placed 4 [] id).blk.regBase + k) 4 :: [] := by decide +kernel

theorem witness_ReadsWhileIdle :
    statusBusy State.reset.blk.status = false ∧
    ∀ k ∈ [0x00, 0x04, 0x08, 0x0C, 0x10, 0x14, 0x18, 0x1C, 0x20, 0x24, 0x28],
      ({ State.reset with script := [.readReg k 4] } : State).script =
        .readReg (State.reset.blk.regBase + k) 4 :: [] := by decide +kernel

theorem witness_OddAccessesRefused :
    (0x3C < 0x40 ∧ (2 ≠ 4 ∨ 0x3C % 4 ≠ 0)) ∧ (0x3F < 0x40 ∧ (4 ≠ 4 ∨ 0x3F % 4 ≠ 0)) := by decide

/-- The last byte of the pending `FILL` of `twoInstances`. -/
theorem witness_InFlightAccessFaults :
    ∃ b ∈ twoInstances.instances, b.pending = some 4 ∧ decode 4 = .ok .fill ∧
      (⟨0x200, 16, true⟩ : OperandRange) ∈ operandRanges .fill b ∧ 0x200 ≤ 0x20F ∧ 0x20F < 0x200 + 16 ∧
      0x20F + [(1 : Byte)].length ≤ twoInstances.memSize ∧ 0x20F < twoInstances.memSize :=
  ⟨_, List.mem_cons_of_mem _ (List.mem_cons_self ..), by decide +kernel, by decide +kernel, by decide +kernel,
    by decide, by decide, by decide +kernel, by decide +kernel⟩

/-- The bytes just below and just above the pending `FILL` of `twoInstances`, up to the last that exists. -/
theorem witness_HostStoresAndLoads :
    twoInstances.mem.Wf ∧ 0x210 + (List.replicate 0xFDF0 (1 : Byte)).length ≤ twoInstances.memSize ∧
    0x1FF < twoInstances.memSize ∧
    ∀ x, (x = 0x1FF ∨ (0x210 ≤ x ∧ x < 0x210 + 0xFDF0)) →
      ∀ b ∈ twoInstances.instances, ∀ (w : Word) (i : Instr), b.pending = some w → decode w = .ok i →
        ∀ r ∈ operandRanges i b, OutsideBytes r.addr r.len x := by
  refine ⟨by decide +kernel, by rw [List.length_replicate]; decide, by decide, ?_⟩
  intro x hx b hb w i hw hd r hr
  simp only [twoInstances, State.instances, List.mem_cons, List.not_mem_nil, or_false] at hb
  rcases hb with rfl | rfl
  · simp [State.reset, State.resetWith, Block.reset] at hw
  · obtain rfl : encode .fill = w := Option.some.inj hw
    obtain rfl : Instr.fill = i := Except.ok.inj ((by decide : decode (encode .fill) = .ok .fill).symm.trans hd)
    obtain rfl : r = ⟨0x200, 16, true⟩ := List.mem_singleton.mp hr
    show x < 0x200 ∨ 0x200 + 16 ≤ x
    omega

/-- The new command reads the first byte that the pending `FILL` writes. -/
theorem witness_SecondAcceptanceFaults :
    (secondCommand 0x1F0 17).script = .writeReg (secondCommand 0x1F0 17).blk.regBase 4 1 :: [] ∧
    statusBusy (secondCommand 0x1F0 17).blk.status = false ∧ decode 1 = .ok .crc32 ∧ decode 4 = .ok .fill ∧
    (⟨0x1F0, 17, false⟩ : OperandRange) ∈ operandRanges .crc32 (secondCommand 0x1F0 17).blk ∧
    (∃ p ∈ (secondCommand 0x1F0 17).peers, p.pending = some 4 ∧
      (⟨0x200, 16, true⟩ : OperandRange) ∈ operandRanges .fill p) ∧
    ¬ RangesApart 0x1F0 17 0x200 16 := by decide +kernel

/-- Each kind of move that names the second instance, at the last address of its window for an access. -/
theorem witness_MovesActOnTheNamedInstance :
    twoInstances.windows.Nodup ∧ (∀ c ∈ twoInstances.instances, c.regBase % 0x40 = 0) ∧
    (∃ b ∈ twoInstances.instances, b ≠ twoInstances.blk ∧ b.regBase = 0x40 ∧
      b.regBase ≤ 0x7F ∧ 0x7F < b.regBase + 0x40) ∧
    ∀ m ∈ [Move.writeReg 0x7C 4 1, .readReg 0x7F 4, .waitIdle 0x40, .resetInstance 0x40, .blockMoves 0x40],
      ({ twoInstances with script := [m] } : State).script = m :: [] := by decide +kernel

theorem witness_ResetValues :
    Block.reset 0 ∈ (State.resetWith Config.Params.default).instances ∧
    ({ State.reset with script := [.resetInstance 0] } : State).script =
      .resetInstance State.reset.blk.regBase :: [] := by decide +kernel

theorem witness_ResetAndMemory :
    (placed 4 [] (operands 0 4)).mem.Wf ∧ (placed 4 [] (operands 0 4)).blk.pending = some 4 ∧
    decode 4 = .ok .fill ∧
    (⟨0x200, 4, true⟩ : OperandRange) ∈ operandRanges .fill (placed 4 [] (operands 0 4)).blk ∧
    0x203 < (placed 4 [] (operands 0 4)).memSize ∧ State.reset.blk.pending = none ∧
    (placed 9 [] id).mem.Wf ∧ (placed 9 [] id).blk.pending = some 9 ∧ decode 9 = .error .reservedOp ∧
    (step { State.reset with script := [.resetInstance 0] } matches .next _) := by decide +kernel

theorem witness_PendingCommandCompletes :
    ((placed 9 [] id).script = [] ∧ (placed 9 [] id).blk.pending ≠ none) ∧
    (twoInstances.script = [] ∧ twoInstances.blk.pending = none ∧
      ∃ b ∈ twoInstances.instances, b.pending ≠ none) := by decide +kernel

theorem witness_WaitEnds :
    State.reset.blk.legal = true ∧ statusBusy State.reset.blk.status = false ∧
    (placed 4 [] id).blk.legal = true ∧ statusBusy (placed 4 [] id).blk.status = true ∧
    ({ placed 4 [] id with script := [.waitIdle 0] } : State).script =
      .waitIdle (placed 4 [] id).blk.regBase :: [] := by decide +kernel

theorem witness_IdleMachineRests :
    State.reset.script = [] ∧ ∀ b ∈ State.reset.instances, b.pending = none := by decide +kernel

theorem witness_StepKeepsMemoryLegal :
    (streamAt 16).MemoryLegal ∧ (step (placed 4 [] (operands 0 4)) matches .next _) := by decide +kernel

theorem witness_StepKeepsRegistersLegal : twoInstances.RegistersLegal := by decide +kernel

theorem witness_StepKeepsPendingExclusive : twoInstances.RegistersLegal ∧ twoInstances.Exclusive := by
  decide +kernel

theorem witness_StepKeepsParameters : ∃ t, step twoInstances = .next t := ⟨_, rfl⟩

theorem witness_ResetIsLegal :
    Config.Params.wellFormed ⟨1, 0, [0x40], .relational⟩ = true ∧
    Config.Params.wellFormed ⟨2 ^ 32, 0x40, [], .reference⟩ = true := by decide

end Sys2Proof.Tests
end

section
/-! PROOFS. One step read backwards: which effects a step has on the instance in focus, and what every one
of them leaves unchanged. Then the statements of spec/00_scope.md: the schedule's next move, the
parameters, and the reset state. -/

namespace Sys2Proof.Machine

/-! ### What one step can do -/

/-- `f` is `s` with some instance brought into focus and the schedule moved on (log 3, log 13). -/
def State.Focuses (s f : State) : Prop :=
  f.instances.Perm s.instances ∧
    ∃ script, f = { s with blk := f.blk, peers := f.peers, script := script }

/-- The effects a move or a block's step can have, each with what the model checked before it:
`Effect f t` says that `f`, with the acting instance in focus, becomes `t`. -/
inductive Effect (f : State) : State → Prop
  /-- A write ignored while busy (R141), or nothing pending (R345). -/
  | rest : Effect f f
  /-- R140: the host writes `CMD`. -/
  | accept (w : Word) (hidle : f.blk.busy = false)
      (hfree : ({ f with blk := f.blk.accept w } : State).conflict = false) :
      Effect f { f with blk := f.blk.accept w }
  /-- R35 to R45: the host writes another offset of the window. -/
  | writeRegister (r : Option RegName) (v : Word) (hidle : f.blk.busy = false) (hr : r ≠ some .cmd) :
      Effect f { f with blk := f.blk.writeRegister v r }
  /-- R149: the host reads an offset of the window. -/
  | readRegister (r : Option RegName) : Effect f (f.hostRead r)
  /-- R114, `MEMW`. -/
  | storeBytes (a : Nat) (bytes : List Byte) (hfree : f.memoryStop a bytes.length = none) :
      Effect f (f.storeBytes a bytes)
  /-- R82: the host loads a byte. -/
  | loadByte (a : Nat) (hfree : f.memoryStop a 1 = none) :
      Effect f { f with rdata := zext32 (f.mem.read a) }
  /-- R370 to R372. -/
  | reset : Effect f f.resetFocus
  /-- R331: an illegal word completes. -/
  | illegal (w : Word) (e : DecodeError) (hp : f.blk.pending = some w) (hd : decode w = .error e) :
      Effect f (f.raiseError .illegalCmd)
  /-- R143: a command runs. -/
  | run (w : Word) (i : Instr) (hp : f.blk.pending = some w) (hd : decode w = .ok i) :
      Effect f (f.runCommand i (operationOf i))

theorem State.Focuses.withScript (s : State) (script : List Move) :
    s.Focuses { s with script := script } :=
  ⟨List.Perm.refl _, script, rfl⟩

theorem State.Focuses.of_focus {s t : State} {pick : Block → Bool} (h : s.focus pick = some t) :
    s.Focuses t := by
  obtain ⟨-, hperm, heq⟩ := State.focus_spec h
  exact ⟨hperm, s.script, heq⟩

theorem State.Focuses.trans {s f g : State} (hsf : s.Focuses f) (hfg : f.Focuses g) : s.Focuses g := by
  obtain ⟨hp, _, hf⟩ := hsf
  obtain ⟨hq, script, hg⟩ := hfg
  refine ⟨hq.trans hp, script, ?_⟩
  rw [hf] at hg
  exact hg

theorem State.Focuses.memSize_eq {s f : State} (h : s.Focuses f) : f.memSize = s.memSize := by
  obtain ⟨-, _, hf⟩ := h
  rw [hf]

theorem State.Focuses.encMode_eq {s f : State} (h : s.Focuses f) : f.encMode = s.encMode := by
  obtain ⟨-, _, hf⟩ := h
  rw [hf]

theorem State.Focuses.windows_perm {s f : State} (h : s.Focuses f) : f.windows.Perm s.windows :=
  h.1.map _

theorem Effect.of_blockStep {f t : State} (h : f.blockStep = .next t) : Effect f t := by
  rcases f.blockStep_cases with ⟨-, hs⟩ | ⟨w, e, hp, hd, hs⟩ | ⟨w, i, hp, hd, hs⟩
  · obtain rfl : f = t := by simpa [hs] using h
    exact .rest
  · obtain rfl : f.raiseError .illegalCmd = t := by simpa [hs] using h
    exact .illegal w e hp hd
  · obtain rfl : f.runCommand i (operationOf i) = t := by simpa [hs, exec_eq_runCommand] using h
    exact .run w i hp hd

theorem Effect.of_hostWrite {f t : State} {r : Option RegName} {v : Word}
    (h : f.hostWrite r v = .next t) : Effect f t := by
  rcases f.hostWrite_cases r v with ⟨-, hs⟩ | ⟨hidle, -, hs⟩ | ⟨hidle, hr, hs⟩
  · obtain rfl : f = t := by simpa [hs] using h
    exact .rest
  · rcases f.writeCmd_cases v with ⟨hf, -⟩ | ⟨hw, hfree⟩
    · simp [hs, hf] at h
    · obtain rfl : { f with blk := f.blk.accept v } = t := by simpa [hs, hw] using h
      exact .accept v hidle hfree
  · obtain rfl : { f with blk := f.blk.writeRegister v r } = t := by simpa [hs] using h
    exact .writeRegister r v hidle hr

theorem Effect.of_hostStore {f t : State} {a : Nat} {bytes : List Byte}
    (h : f.hostStore a bytes = .next t) : Effect f t := by
  rcases f.hostStore_cases a bytes with ⟨_, -, hs⟩ | ⟨hfree, hs⟩
  · simp [hs] at h
  · obtain rfl : f.storeBytes a bytes = t := by simpa [hs] using h
    exact .storeBytes a bytes hfree

theorem Effect.of_hostLoad {f t : State} {a : Nat} (h : f.hostLoad a = .next t) : Effect f t := by
  unfold State.hostLoad at h
  split at h
  · cases h
  · rename_i hfree
    cases h
    exact .loadByte a hfree

/-- Everything one move can do, where it goes on: it acts on the instance it names, brought into focus. -/
theorem State.move_effect {s t : State} {m : Move} (h : s.move m = .next t) :
    ∃ f, s.Focuses f ∧ Effect f t := by
  have hself : s.Focuses s := .withScript s s.script
  cases m with
  | writeReg addr width v =>
    simp only [State.move, State.writeAt] at h
    split at h
    · cases h
    · rename_i f hf
      split at h
      · exact ⟨f, .of_focus hf, .of_hostWrite h⟩
      · cases h
  | readReg addr width =>
    simp only [State.move, State.readAt] at h
    split at h
    · cases h
    · rename_i f hf
      split at h
      · cases h
        exact ⟨f, .of_focus hf, .readRegister _⟩
      · cases h
  | waitIdle base =>
    simp only [State.move, State.waitAt] at h
    split at h
    · cases h
    · rename_i f hf
      split at h
      · exact ⟨_, (State.Focuses.of_focus hf).trans (.withScript f _), .of_blockStep h⟩
      · cases h
        exact ⟨f, .of_focus hf, .readRegister _⟩
  | storeBytes a bytes => exact ⟨s, hself, .of_hostStore h⟩
  | loadByte a => exact ⟨s, hself, .of_hostLoad h⟩
  | resetInstance base =>
    simp only [State.move, State.resetAt] at h
    split at h
    · cases h
    · rename_i f hf
      cases h
      exact ⟨f, .of_focus hf, .reset⟩
  | blockMoves base =>
    simp only [State.move, State.blockStepAt] at h
    split at h
    · cases h
    · rename_i f hf
      exact ⟨f, .of_focus hf, .of_blockStep h⟩

theorem State.idleStep_effect {s t : State} (h : s.idleStep = .next t) :
    ∃ f, s.Focuses f ∧ Effect f t := by
  unfold State.idleStep at h
  split at h
  · rename_i f hf
    exact ⟨f, .of_focus hf, .of_blockStep h⟩
  · cases h
    exact ⟨s, .withScript s s.script, .rest⟩

/-- Everything one step can do, where it goes on: every step invariant follows from `Effect` by cases. -/
theorem step_effect {s t : State} (h : step s = .next t) : ∃ f, s.Focuses f ∧ Effect f t := by
  rcases step_cases s with ⟨-, hs⟩ | ⟨m, rest, -, hs⟩
  · exact State.idleStep_effect (hs ▸ h)
  · obtain ⟨f, hf, he⟩ := State.move_effect (hs ▸ h)
    exact ⟨f, (State.Focuses.withScript s rest).trans hf, he⟩

/-! ### What every effect leaves unchanged -/

/-- What no command and no move changes once its instance is in focus: the parameters (R12, R13), the
instance's window, and every other instance (R344). -/
def State.SamePlatform (s t : State) : Prop :=
  t.memSize = s.memSize ∧ t.encMode = s.encMode ∧ t.blk.regBase = s.blk.regBase ∧ t.peers = s.peers

theorem State.SamePlatform.refl (s : State) : s.SamePlatform s :=
  ⟨rfl, rfl, rfl, rfl⟩

theorem State.SamePlatform.windows_eq {s t : State} (h : s.SamePlatform t) : t.windows = s.windows := by
  obtain ⟨-, -, hbase, hpeers⟩ := h
  simp [State.windows, State.instances, hbase, hpeers]

theorem operationOf_samePlatform (i : Instr) (s : State) : s.SamePlatform (operationOf i s).1 := by
  cases i <;> simp [operationOf, State.deliverKey, State.SamePlatform]

theorem State.runCommand_samePlatform (i : Instr) (s : State) :
    s.SamePlatform (s.runCommand i (operationOf i)) := by
  rcases s.runCommand_cases i (operationOf i) with ⟨code, -, hs⟩ | ⟨-, hs⟩
  · rw [hs]
    exact .refl s
  · rw [hs]
    simpa [State.SamePlatform] using operationOf_samePlatform i s

theorem State.hostRead_samePlatform (s : State) (r : Option RegName) : s.SamePlatform (s.hostRead r) := by
  rw [State.hostRead_frame]
  exact .refl s

theorem State.resetFocus_samePlatform (s : State) : s.SamePlatform s.resetFocus := by
  unfold State.resetFocus
  rw [State.discardRanges_frame]
  exact .refl s

theorem Effect.samePlatform {f t : State} (h : Effect f t) : f.SamePlatform t := by
  cases h with
  | rest => exact .refl f
  | accept w => exact .refl f
  | writeRegister r v => simp [State.SamePlatform]
  | readRegister r => exact f.hostRead_samePlatform r
  | storeBytes a bytes => exact .refl f
  | loadByte a => exact .refl f
  | reset => exact f.resetFocus_samePlatform
  | illegal w e => exact .refl f
  | run w i => exact f.runCommand_samePlatform i

/-- Settles O58: a change of focus permutes the instances, and no effect touches a parameter or a window. -/
theorem stepKeepsParameters : Obligations.StepKeepsParameters := by
  intro s t h
  obtain ⟨f, hf, he⟩ := step_effect h
  have hwindows : t.windows = f.windows := he.samePlatform.windows_eq
  obtain ⟨hmem, henc, -, -⟩ := he.samePlatform
  exact ⟨hmem.trans hf.memSize_eq, henc.trans hf.encMode_eq, hwindows ▸ hf.windows_perm⟩

/-! ### The schedule -/

/-- A step with moves left makes the first of them (log 3). -/
theorem step_of_script_cons {s : State} {m : Move} {rest : List Move} (h : s.script = m :: rest) :
    step s = ({ s with script := rest } : State).move m := by
  simp [step, State.advance, h]

/-- Settles O5, by cases on the move. -/
theorem stepMakesTheNextMove : Obligations.StepMakesTheNextMove := by
  intro s m rest h
  rw [step_of_script_cons h]
  cases m <;> rfl

/-! ### The reset state -/

theorem params_wellFormed_iff (p : Config.Params) :
    p.wellFormed = true ↔ 1 ≤ p.memSize ∧ p.memSize ≤ 2 ^ 32 ∧
      (∀ base ∈ p.regBase :: p.peerBases, base % Config.regSpan = 0) ∧ (p.regBase :: p.peerBases).Nodup := by
  simp only [Config.Params.wellFormed, Bool.and_eq_true, decide_eq_true_eq, List.all_eq_true, beq_iff_eq,
    and_assoc]

theorem Block.reset_legal {base : Nat} (h : base % Config.regSpan = 0) : (Block.reset base).legal = true := by
  simp [Block.legal, Block.statusLegal, idleStatuses, h]

theorem State.resetWith_instances (p : Config.Params) :
    (State.resetWith p).instances = (p.regBase :: p.peerBases).map Block.reset := rfl

theorem State.resetWith_windows (p : Config.Params) :
    (State.resetWith p).windows = p.regBase :: p.peerBases := by
  simp [State.windows, State.resetWith_instances, Function.comp_def]

theorem State.resetWith_memoryLegal {p : Config.Params} (h : p.wellFormed = true) :
    (State.resetWith p).MemoryLegal := by
  obtain ⟨hlow, hhigh, -, -⟩ := (params_wellFormed_iff p).mp h
  have hempty : Memory.Wf [] := ⟨.nil, by simp⟩
  exact ⟨hempty, by simp [State.resetWith], hlow, hhigh⟩

theorem State.resetWith_registersLegal {p : Config.Params} (h : p.wellFormed = true) :
    (State.resetWith p).RegistersLegal := by
  obtain ⟨-, -, haligned, hnodup⟩ := (params_wellFormed_iff p).mp h
  constructor
  · rw [State.resetWith_instances]
    exact List.forall_mem_map.mpr fun base hb => Block.reset_legal (haligned base hb)
  · rwa [State.resetWith_windows]

/-- After reset no command is pending, so no two ranges meet, whatever the windows are. -/
theorem State.resetWith_exclusive (p : Config.Params) : (State.resetWith p).Exclusive := by
  have hreset (base : Nat) : (Block.reset base).pendingRanges = [] :=
    Block.pendingRanges_of_none rfl
  rw [State.Exclusive, State.resetWith_instances, List.pairwise_map]
  exact List.pairwise_of_forall fun b c => by simp [hreset, rangesConflict]

/-- Settles O59: each invariant holds of `State.resetWith`, and `State.reset` is one of those states. -/
theorem resetIsLegal : Obligations.ResetIsLegal := by
  have hall (p : Config.Params) (h : p.wellFormed = true) :
      (State.resetWith p).MemoryLegal ∧ (State.resetWith p).RegistersLegal ∧ (State.resetWith p).Exclusive :=
    ⟨State.resetWith_memoryLegal h, State.resetWith_registersLegal h, State.resetWith_exclusive p⟩
  exact ⟨hall, hall Config.Params.default (by decide)⟩

end Sys2Proof.Machine
end

section
/-! PROOFS. The register file (spec/10_state.md): seeds that are not 0, host accesses to an instance, what a
command leaves of the registers, the fields of a legal `STATUS`, and the instances kept legal by every step. -/

namespace Sys2Proof.Machine

/-! ### Masks of a word -/

/-- A mask of the low `n` bits is the remainder by `2 ^ n`. -/
theorem toNat_and_lowMask (w : Word) {n : Nat} (hn : n ≤ 32) :
    (w &&& BitVec.ofNat 32 (2 ^ n - 1)).toNat = w.toNat % 2 ^ n := by
  have hle : 2 ^ n ≤ 2 ^ 32 := Nat.pow_le_pow_right (by decide) hn
  have hpos : 0 < 2 ^ n := Nat.two_pow_pos n
  rw [BitVec.toNat_and, BitVec.toNat_ofNat, Nat.mod_eq_of_lt (by omega), Nat.and_two_pow_sub_one_eq_mod]

theorem toNat_and_seedMask (w : Word) : (w &&& 0x7FFFFFFF#32).toNat = w.toNat % 2 ^ 31 :=
  toNat_and_lowMask w (n := 31) (by decide)

/-! ### The generator and the conditioner leave no zero seed -/

/-- A word that `PRNG_STATE` may hold: bit 31 is 0 and the other bits are not all 0 (R44). -/
def IsSeed (w : Word) : Prop :=
  0 < w.toNat ∧ w.toNat ≤ prngMod

/-- A seed word, stored, is not the forbidden 0. -/
theorem IsSeed.stored_ne_zero {w : Word} (h : IsSeed w) : w.setWidth 31 ≠ 0#31 := by
  obtain ⟨hpos, hle⟩ := h
  unfold prngMod at hle
  rw [ne_eq, ← BitVec.toNat_inj, BitVec.toNat_setWidth, BitVec.toNat_zero]
  omega

theorem Block.prngWord_isSeed {b : Block} (h : b.prng ≠ 0#31) : IsSeed b.prngWord := by
  have hlt := b.prng.isLt
  have hne : b.prng.toNat ≠ 0 := fun h0 => h (BitVec.eq_of_toNat_eq h0)
  have hword : b.prngWord.toNat = b.prng.toNat := by
    rw [Block.prngWord, BitVec.toNat_setWidth]
    omega
  unfold IsSeed prngMod
  omega

/-- The fold subtracts the modulus once, where the sum passed it (R192). -/
theorem toNat_foldCarry (t : Word) :
    (foldCarry t).toNat = if prngMod < t.toNat then t.toNat - prngMod else t.toNat := by
  have hlt := t.isLt
  have hand := toNat_and_seedMask t
  have hgt : t > 0x7FFFFFFF#32 ↔ prngMod < t.toNat := BitVec.lt_def
  unfold foldCarry
  simp only [hgt]
  split
  · unfold prngMod at *
    have hone : (1#32).toNat = 1 := rfl
    rw [BitVec.toNat_add, hand, hone]
    omega
  · rfl

theorem toNat_lowHalf (w : Word) : (w &&& 0xFFFF#32).toNat = w.toNat % 2 ^ 16 :=
  toNat_and_lowMask w (n := 16) (by decide)

theorem toNat_low15 (w : Word) : (w &&& 0x7FFF#32).toNat = w.toNat % 2 ^ 15 :=
  toNat_and_lowMask w (n := 15) (by decide)

/-- A product with the multiplier does not wrap where the factor has at most 17 bits. -/
theorem toNat_mul_prngMult {w : Word} (h : w.toNat < 2 ^ 17) : (w * prngMult).toNat = w.toNat * 16807 := by
  have hmult : prngMult.toNat = 16807 := rfl
  rw [BitVec.toNat_mul, hmult]
  omega

/-- A fold of a sum of two words below `2 ^ 31` is below `2 ^ 31` again, and 0 only where both words are. -/
theorem foldCarry_add_bounds {a b : Word} (ha : a.toNat ≤ prngMod) (hb : b.toNat ≤ prngMod) :
    (foldCarry (a + b)).toNat ≤ prngMod ∧ (0 < (foldCarry (a + b)).toNat ↔ 0 < a.toNat + b.toNat) := by
  unfold prngMod at ha hb
  have hsum : (a + b).toNat = a.toNat + b.toNat := by
    rw [BitVec.toNat_add]
    omega
  rw [toNat_foldCarry, hsum, prngMod]
  split <;> omega

/-- The generator keeps `PRNG_STATE` a seed word: the three partial products of R192 are words below `2 ^ 31`,
not all 0, and so is what each fold makes of them. -/
theorem prngNext_isSeed {w : Word} (h : IsSeed w) : IsSeed (prngNext w) := by
  obtain ⟨hpos, hle⟩ := h
  unfold prngMod at hle
  have hhalf : (w >>> 16).toNat = w.toNat / 2 ^ 16 := by simp [Nat.shiftRight_eq_div_pow]
  have hupper : ((w >>> 16) * prngMult).toNat = w.toNat / 2 ^ 16 * 16807 := by
    rw [toNat_mul_prngMult (by omega), hhalf]
  have hlower : ((w &&& 0xFFFF#32) * prngMult).toNat = w.toNat % 2 ^ 16 * 16807 := by
    rw [toNat_mul_prngMult (by rw [toNat_lowHalf]; omega), toNat_lowHalf]
  have hmid : ((((w >>> 16) * prngMult) &&& 0x7FFF#32) <<< 16).toNat =
      w.toNat / 2 ^ 16 * 16807 % 2 ^ 15 * 2 ^ 16 := by
    rw [BitVec.toNat_shiftLeft, toNat_low15, hupper, Nat.shiftLeft_eq]
    omega
  have htop : (((w >>> 16) * prngMult) >>> 15).toNat = w.toNat / 2 ^ 16 * 16807 / 2 ^ 15 := by
    rw [BitVec.toNat_ushiftRight, hupper, Nat.shiftRight_eq_div_pow]
  obtain ⟨hfirst, hfirstPos⟩ := foldCarry_add_bounds
    (hlower.trans_le (by unfold prngMod; omega)) (hmid.trans_le (by unfold prngMod; omega))
  obtain ⟨hlast, hlastPos⟩ := foldCarry_add_bounds hfirst (htop.trans_le (by unfold prngMod; omega))
  refine ⟨hlastPos.mpr ?_, hlast⟩
  rw [Nat.add_pos_iff_pos_or_pos, hfirstPos, hlower, hmid, htop]
  omega

theorem prngAfter_isSeed (n : Nat) {w : Word} (h : IsSeed w) : IsSeed (prngAfter n w) := by
  induction n generalizing w with
  | zero => exact h
  | succ n ih =>
    rw [prngAfter]
    exact ih (prngNext_isSeed h)

theorem setBits_cons (s : Word) (b : Nat) (bits : List Nat) :
    setBits s (b :: bits) = setBits (s ||| (1#32 <<< b)) bits := rfl

theorem clearBits_cons (s : Word) (b : Nat) (bits : List Nat) :
    clearBits s (b :: bits) = clearBits (s &&& ~~~(1#32 <<< b)) bits := rfl

theorem getLsbD_oneBit {b i : Nat} (hi : i < 32) : (1#32 <<< b).getLsbD i = decide (i = b) := by
  have htwoPow : (1#32 <<< b).getLsbD i = (decide (b < 32) && decide (b = i)) := BitVec.getLsbD_twoPow b i
  rw [htwoPow, Bool.eq_iff_iff]
  simp only [Bool.and_eq_true, decide_eq_true_eq]
  omega

theorem getLsbD_setBits (s : Word) (bits : List Nat) {i : Nat} (hi : i < 32) :
    (setBits s bits).getLsbD i = (s.getLsbD i || decide (i ∈ bits)) := by
  induction bits generalizing s with
  | nil => simp [setBits]
  | cons b bits ih =>
    rw [setBits_cons, ih, BitVec.getLsbD_or, getLsbD_oneBit hi]
    simp [Bool.or_assoc]

theorem getLsbD_clearBits (s : Word) (bits : List Nat) {i : Nat} (hi : i < 32) :
    (clearBits s bits).getLsbD i = (s.getLsbD i && !decide (i ∈ bits)) := by
  induction bits generalizing s with
  | nil => simp [clearBits]
  | cons b bits ih =>
    rw [clearBits_cons, ih, BitVec.getLsbD_and, BitVec.getLsbD_not, getLsbD_oneBit hi]
    simp [hi, Bool.and_assoc]

theorem bit31_not_mem_take_seedB (n : Nat) : 31 ∉ seedB.take n := by
  have hseedB : 31 ∉ seedB := by decide
  exact fun h => hseedB (List.mem_of_mem_take h)

theorem bit31_setBits_seedB {s : Word} (h : s.getLsbD 31 = false) (n : Nat) :
    (setBits s (seedB.take n)).getLsbD 31 = false := by
  rw [getLsbD_setBits s _ (by decide), h, decide_eq_false (bit31_not_mem_take_seedB n), Bool.or_false]

theorem bit31_clearBits {s : Word} (h : s.getLsbD 31 = false) (bits : List Nat) :
    (clearBits s bits).getLsbD 31 = false := by
  rw [getLsbD_clearBits s bits (by decide), h, Bool.false_and]

/-- The last step of R190 makes a seed word of any word whose bit 31 is 0. -/
theorem isSeed_of_bit31 {s : Word} (h : s.getLsbD 31 = false) :
    IsSeed (if s = 0#32 then 1#32 else s &&& 0x7FFFFFFF#32) := by
  have hlt : 2 * s.toNat < 2 ^ 32 :=
    BitVec.msb_eq_false_iff_two_mul_lt.mp ((BitVec.msb_eq_getLsbD_last s).trans h)
  unfold IsSeed prngMod
  split
  · decide
  · rename_i hne
    have hpos : s.toNat ≠ 0 := fun h0 => hne (BitVec.eq_of_toNat_eq h0)
    rw [toNat_and_seedMask]
    omega

/-- The conditioner answers a seed word: no bit it sets is bit 31 (R190, R191). -/
theorem condition_isSeed (c : Word) : IsSeed (condition c) := by
  have hmask : (c &&& 0x7FFFFFFF#32).getLsbD 31 = false := by
    rw [BitVec.getLsbD_and]
    exact Bool.and_false _
  have hset (p : Nat) : (if p < 8 then setBits (c &&& 0x7FFFFFFF#32) (seedB.take (8 - p))
      else c &&& 0x7FFFFFFF#32).getLsbD 31 = false := by
    split
    · exact bit31_setBits_seedB hmask _
    · exact hmask
  unfold condition
  refine isSeed_of_bit31 ?_
  split
  · exact bit31_clearBits (hset _) _
  · exact hset _

/-! ### Host accesses to the instance in focus -/

theorem Block.owns_iff (b : Block) (addr : Nat) :
    b.owns addr = true ↔ b.regBase ≤ addr ∧ addr < b.regBase + 0x40 := by
  rw [Block.owns, Bool.and_eq_true, decide_eq_true_eq, decide_eq_true_eq, Config.regSpan]

@[simp] theorem Block.owns_offset {b : Block} {offset : Nat} (h : offset < 0x40) :
    b.owns (b.regBase + offset) = true :=
  (b.owns_iff _).mpr ⟨by omega, by omega⟩

@[simp] theorem accessSupported_offset {base offset : Nat} (h : offset % 4 = 0) :
    accessSupported base (base + offset) 4 = true := by
  simp [accessSupported, h]

/-- A write at an aligned offset of the window in focus reaches the register at that offset (R71, R74). -/
theorem State.writeAt_offset (s : State) {offset : Nat} (hlt : offset < 0x40) (hal : offset % 4 = 0) (v : Word) :
    s.writeAt (s.blk.regBase + offset) 4 v = s.hostWrite (registerAt offset) v := by
  simp [State.writeAt, hlt, hal]

/-- A read at an aligned offset of the window in focus reaches the register at that offset (R71, R74). -/
theorem State.readAt_offset (s : State) {offset : Nat} (hlt : offset < 0x40) (hal : offset % 4 = 0) :
    s.readAt (s.blk.regBase + offset) 4 = .next (s.hostRead (registerAt offset)) := by
  simp [State.readAt, hlt, hal]

theorem State.hostWrite_cmd_idle {s : State} (hidle : s.blk.busy = false) (w : Word) :
    s.hostWrite (some .cmd) w = s.writeCmd w := by
  simp [State.hostWrite, hidle]

theorem State.hostWrite_idle {s : State} {r : Option RegName} (hidle : s.blk.busy = false)
    (hr : r ≠ some .cmd) (v : Word) :
    s.hostWrite r v = .next { s with blk := s.blk.writeRegister v r } := by
  simp [State.hostWrite, hidle, hr]

theorem State.hostRead_idle {s : State} (hidle : s.blk.busy = false) (r : Option RegName) :
    s.hostRead r = { s with rdata := s.blk.readRegister r } := by
  simp [State.hostRead, hidle]

theorem State.conflict_eq_false_iff (s : State) :
    s.conflict = false ↔ ∀ p ∈ s.peers, rangesConflict s.blk.pendingRanges p.pendingRanges = false := by
  simp [State.conflict]

/-- An idle instance accepts any word whose ranges meet no pending command's (R140, R89). -/
theorem State.writeCmd_of_free {s : State} {w : Word}
    (hfree : ∀ p ∈ s.peers, rangesConflict (s.blk.accept w).pendingRanges p.pendingRanges = false) :
    s.writeCmd w = .next { s with blk := s.blk.accept w } := by
  have hnone : ({ s with blk := s.blk.accept w } : State).conflict = false :=
    (State.conflict_eq_false_iff _).mpr hfree
  simp [State.writeCmd, hnone]

/-- Settles O39: the instance is idle and its ranges meet no pending command's, so the word is accepted. -/
theorem cmdWriteIsAccepted : Obligations.CmdWriteIsAccepted := by
  intro s w rest hscript hidle hfree
  calc step s = ({ s with script := rest } : State).writeAt (s.blk.regBase + 0) 4 w :=
        step_of_script_cons hscript
    _ = ({ s with script := rest } : State).hostWrite (some .cmd) w :=
        State.writeAt_offset { s with script := rest } (by decide) (by decide) w
    _ = ({ s with script := rest } : State).writeCmd w :=
        State.hostWrite_cmd_idle (s := { s with script := rest }) hidle w
    _ = .next { s with script := rest, blk := s.blk.accept w } :=
        State.writeCmd_of_free (s := { s with script := rest }) hfree

/-- A host write to an idle instance, at any offset but that of `CMD`, is one update of its register file. -/
theorem step_writeReg_idle {s : State} {offset : Nat} {v : Word} {rest : List Move}
    (hscript : s.script = .writeReg (s.blk.regBase + offset) 4 v :: rest)
    (hidle : statusBusy s.blk.status = false)
    (hoffset : offset < 0x40 ∧ offset % 4 = 0 ∧ registerAt offset ≠ some .cmd) :
    step s = .next { s with script := rest, blk := s.blk.writeRegister v (registerAt offset) } := by
  obtain ⟨hlt, hal, hr⟩ := hoffset
  calc step s = ({ s with script := rest } : State).writeAt (s.blk.regBase + offset) 4 v :=
        step_of_script_cons hscript
    _ = ({ s with script := rest } : State).hostWrite (registerAt offset) v :=
        State.writeAt_offset { s with script := rest } hlt hal v
    _ = .next { s with script := rest, blk := s.blk.writeRegister v (registerAt offset) } :=
        State.hostWrite_idle (s := { s with script := rest }) hidle hr v

/-- A host read of an idle instance leaves the stored value in the read data. -/
theorem step_readReg_idle {s : State} {offset : Nat} {rest : List Move}
    (hscript : s.script = .readReg (s.blk.regBase + offset) 4 :: rest)
    (hidle : statusBusy s.blk.status = false) (hoffset : offset < 0x40 ∧ offset % 4 = 0) :
    step s = .next { s with script := rest, rdata := s.blk.readRegister (registerAt offset) } := by
  obtain ⟨hlt, hal⟩ := hoffset
  calc step s = ({ s with script := rest } : State).readAt (s.blk.regBase + offset) 4 :=
        step_of_script_cons hscript
    _ = .next (({ s with script := rest } : State).hostRead (registerAt offset)) :=
        State.readAt_offset { s with script := rest } hlt hal
    _ = .next { s with script := rest, rdata := s.blk.readRegister (registerAt offset) } :=
        congrArg _ (State.hostRead_idle (s := { s with script := rest }) hidle _)

/-- Settles O41: at each offset `Block.writeRegister` is the update that the statement writes out. -/
theorem hostWritesOperandRegisters : Obligations.HostWritesOperandRegisters := by
  intro s v rest hidle
  refine ⟨?_, ?_, ?_, ?_, ?_, ?_, ?_, ?_, ?_⟩ <;>
    exact fun hscript => step_writeReg_idle hscript hidle (by decide)

/-- Settles O45: at each offset `Block.readRegister` is the field that the statement names. -/
theorem readsWhileIdle : Obligations.ReadsWhileIdle := by
  intro s rest hidle
  refine ⟨?_, ?_, ?_, ?_, ?_, ?_, ?_, ?_, ?_, ?_, ?_, rfl⟩ <;>
    exact fun hscript => step_readReg_idle hscript hidle (by decide)

/-! ### The seed register and the reserved offsets -/

/-- The 31 stored bits, as they read (R44). -/
theorem zeroExtend_storedSeed (w : Word) : (w.setWidth 31).setWidth 32 = w &&& 0x7FFFFFFF#32 := by
  apply BitVec.eq_of_toNat_eq
  rw [toNat_and_seedMask, BitVec.toNat_setWidth, BitVec.toNat_setWidth]
  omega

theorem storedSeed_eq_zero_iff (w : Word) : w.setWidth 31 = 0#31 ↔ w &&& 0x7FFFFFFF#32 = 0 := by
  rw [← BitVec.toNat_inj, ← BitVec.toNat_inj, toNat_and_seedMask, BitVec.toNat_setWidth]
  simp

/-- Settles O42: the two branches of `prngOfHostWrite`, read zero-extended. -/
theorem prngWriteStoresLegalSeed : Obligations.PrngWriteStoresLegalSeed := by
  intro s w rest hidle hscript
  refine ⟨_, step_writeReg_idle hscript hidle (by decide), rfl, fun hne => ?_, fun hzero => ?_⟩
  · have hstored : prngOfHostWrite w = w.setWidth 31 :=
      if_neg (mt (storedSeed_eq_zero_iff w).mp hne)
    exact (congrArg (·.setWidth 32) hstored).trans (zeroExtend_storedSeed w)
  · have hstored : prngOfHostWrite w = 1#31 := if_pos ((storedSeed_eq_zero_iff w).mpr hzero)
    exact congrArg (·.setWidth 32) hstored

theorem registerAt_reserved {offset : Nat} (h : offset ∈ [0x2C, 0x30, 0x34, 0x38, 0x3C]) :
    offset < 0x40 ∧ offset % 4 = 0 ∧ registerAt offset = none := by
  revert offset
  decide

theorem State.hostRead_reserved (s : State) : s.hostRead none = { s with rdata := 0 } := by
  unfold State.hostRead
  cases s.blk.busy <;> rfl

theorem State.hostWrite_reserved (s : State) (v : Word) : s.hostWrite none v = .next s := by
  simp [State.hostWrite, Block.writeRegister]

/-- Settles O43: the five offsets select no register, busy or not. -/
theorem reservedOffsetsReadZero : Obligations.ReservedOffsetsReadZero := by
  intro s offset v hmem
  obtain ⟨hlt, hal, hnone⟩ := registerAt_reserved hmem
  rw [s.readAt_offset hlt hal, s.writeAt_offset hlt hal, hnone]
  exact ⟨congrArg _ s.hostRead_reserved, s.hostWrite_reserved v⟩

/-! ### What a command leaves of the registers -/

/-- The registers' part of R31 and R107, between the state before the command `i` and one after it. -/
def State.KeepsRegisters (i : Instr) (s t : State) : Prop :=
  t.blk.regBase = s.blk.regBase ∧ t.blk.cmd = s.blk.cmd ∧
  t.blk.src = s.blk.src ∧ t.blk.srcLen = s.blk.srcLen ∧ t.blk.dst = s.blk.dst ∧
  t.blk.dstLen = s.blk.dstLen ∧ t.blk.key = s.blk.key ∧ t.blk.arg = s.blk.arg ∧
  (i ∉ [.seed, .next, .fill] → t.blk.prng = s.blk.prng) ∧
  (i ∉ [.crc32, .seed, .next, .keygenAdk, .keygenAdkR, .keygenDng, .keygenDngR] →
    t.blk.result = s.blk.result) ∧
  (i ∉ [.lzd, .lze] → t.blk.outLen = s.blk.outLen) ∧
  t.peers = s.peers ∧ t.memSize = s.memSize ∧ t.encMode = s.encMode ∧ t.script = s.script ∧
  t.rdata = s.rdata ∧ (i = .lze ∧ s.encMode = .relational ∨ t.draws = s.draws)

theorem State.KeepsRegisters.refl (i : Instr) (s : State) : s.KeepsRegisters i s := by
  simp [State.KeepsRegisters]

/-- A completion writes `STATUS` and the pending word only (R142, R333). -/
theorem State.KeepsRegisters.finish {i : Instr} {s t : State} (h : s.KeepsRegisters i t) (code : ErrCode) :
    s.KeepsRegisters i (t.finish code) := by
  simpa [State.KeepsRegisters] using h

theorem State.afterEncode_draws (s : State) :
    s.encMode = .relational ∨ s.afterEncode.draws = s.draws := by
  unfold State.afterEncode
  cases s.encMode <;> simp

@[simp] theorem State.deliverKey_blk_prng (s : State) (key : List Byte) :
    (s.deliverKey key).blk.prng = s.blk.prng := rfl

/-- A delivered key leaves every register but `RESULT` (R224). -/
theorem State.deliverKey_keepsRegisters {i : Instr} (s : State) (key : List Byte)
    (hi : i ∈ [.keygenAdk, .keygenAdkR, .keygenDng, .keygenDngR]) : s.KeepsRegisters i (s.deliverKey key) := by
  have hresult : i ∈ [.crc32, .seed, .next, .keygenAdk, .keygenAdkR, .keygenDng, .keygenDngR] :=
    List.mem_of_mem_drop (i := 3) hi
  exact ⟨rfl, rfl, rfl, rfl, rfl, rfl, rfl, rfl, fun _ => rfl, fun h => absurd hresult h, fun _ => rfl,
    rfl, rfl, rfl, rfl, rfl, .inr rfl⟩

/-- Each operation writes the registers of its row of R107 and no other. -/
theorem operationOf_keepsRegisters (i : Instr) (s : State) : s.KeepsRegisters i (operationOf i s).1 := by
  cases i with
  | keygenAdk => exact s.deliverKey_keepsRegisters _ (by decide)
  | keygenAdkR => exact s.deliverKey_keepsRegisters _ (by decide)
  | keygenDng => exact s.deliverKey_keepsRegisters _ (by decide)
  | keygenDngR => exact s.deliverKey_keepsRegisters _ (by decide)
  | lze =>
    simpa [operationOf, State.KeepsRegisters] using
      State.afterEncode_draws ((s.storeBytes _ _).setOutLen _)
  | _ => simp [operationOf, State.KeepsRegisters]

/-- The checks answer no code 0: they raise an error or pass (R144). -/
theorem operandError_ne_none (i : Instr) (b : Block) (memSize : Nat) :
    operandError i b memSize ≠ some .none := by
  intro h
  rcases operandError_cases i b memSize with ⟨he, -⟩ | ⟨he, -⟩ | ⟨he, -⟩ | ⟨he, -⟩ <;> simp [h] at he

theorem State.raiseError_eq_finish (s : State) {code : ErrCode} (h : code ≠ .none) :
    s.raiseError code = s.finish code := by
  cases code with
  | none => exact absurd rfl h
  | _ => rfl

/-- Every command ends in a completion: of the state it found where a check raised, else of the state its
operation left (R142 to R145). -/
theorem State.runCommand_finishes (i : Instr) (s : State) :
    ∃ t code, (t = s ∨ t = (operationOf i s).1) ∧ s.runCommand i (operationOf i) = t.finish code := by
  rcases s.runCommand_cases i (operationOf i) with ⟨code, herr, hs⟩ | ⟨-, hs⟩
  · have hcode : code ≠ .none := by
      rintro rfl
      exact operandError_ne_none i s.blk s.memSize herr
    exact ⟨s, code, .inl rfl, hs.trans (s.raiseError_eq_finish hcode)⟩
  · exact ⟨_, _, .inr rfl, hs⟩

/-- Settles O18: a failed check completes the state it found, and each operation keeps to its row. -/
theorem commandsKeepOtherRegisters : Obligations.CommandsKeepOtherRegisters := by
  intro i s t h
  obtain ⟨u, code, hu, hs⟩ := s.runCommand_finishes i
  obtain rfl : u.finish code = t := by simpa [exec_eq_runCommand, hs] using h
  rcases hu with rfl | rfl
  · exact (State.KeepsRegisters.refl i u).finish code
  · exact (operationOf_keepsRegisters i s).finish code

/-! ### The fields of a legal `STATUS` -/

/-- The two shapes of a legal `STATUS` (R34, R35, R46). -/
theorem Block.statusLegal_iff (b : Block) :
    b.statusLegal = true ↔
      b.pending = some b.cmd ∧ b.status = statusAccepted ∨ b.pending = none ∧ b.status ∈ idleStatuses := by
  unfold Block.statusLegal
  split
  · rename_i w h
    simp [h, and_comm, eq_comm (a := w)]
  · rename_i h
    simp [h]

theorem Block.legal_iff (b : Block) :
    b.legal = true ↔ b.statusLegal = true ∧ b.prng ≠ 0#31 ∧ b.regBase % Config.regSpan = 0 := by
  simp [Block.legal, and_assoc]

/-- What R35 and R330 say of the word in `STATUS`, whether a command is pending or not. -/
abbrev StatusFieldsAgree (w : Word) (pending : Bool) : Prop :=
  (statusErr w = true ↔ statusErrCode w ≠ 0) ∧
  w.toNat % 2 ^ 3 ∈ [0, 1, 2, 6] ∧
  (∀ k < 32, (3 ≤ k ∧ k < 8) ∨ 16 ≤ k → w.getLsbD k = false) ∧
  (statusBusy w = true ↔ pending = true) ∧
  (statusBusy w = true → statusErrCode w = 0 ∧ statusDone w = false) ∧
  (statusErrCode w).toNat ≤ 6

theorem statusAccepted_fieldsAgree : StatusFieldsAgree statusAccepted true := by
  decide

theorem idleStatuses_fieldsAgree {w : Word} (h : w ∈ idleStatuses) : StatusFieldsAgree w false := by
  have hall : idleStatuses.all (fun w => decide (StatusFieldsAgree w false)) = true := by decide
  exact of_decide_eq_true (List.all_eq_true.mp hall w h)

/-- Settles O24: a legal `STATUS` is the accepted word or one of the eight idle ones. -/
theorem legalStatusFields : Obligations.LegalStatusFields := by
  intro b h
  obtain ⟨hstatus, -, -⟩ := b.legal_iff.mp h
  rcases b.statusLegal_iff.mp hstatus with ⟨hp, hs⟩ | ⟨hp, hs⟩
  · rw [hp, hs]
    exact statusAccepted_fieldsAgree
  · rw [hp]
    exact idleStatuses_fieldsAgree hs

/-! ### Every step keeps the instances legal -/

/-- A command ends with one of the idle values of `STATUS`, whatever its code (R142, R333). -/
theorem statusCompleted_mem_idleStatuses (code : ErrCode) : statusCompleted code ∈ idleStatuses := by
  cases code <;> decide

theorem State.finish_legal {s : State} (hseed : s.blk.prng ≠ 0#31)
    (hal : s.blk.regBase % Config.regSpan = 0) (code : ErrCode) : (s.finish code).blk.legal = true := by
  have hstatus : (s.finish code).blk.statusLegal = true :=
    (Block.statusLegal_iff _).mpr (.inr ⟨by simp, by simp [statusCompleted_mem_idleStatuses]⟩)
  exact (Block.legal_iff _).mpr ⟨hstatus, by simpa using hseed, by simpa using hal⟩

/-- What an operation leaves in `PRNG_STATE` is not the forbidden 0: `SEED` conditions its word, `NEXT` and
`FILL` step the generator, and no other command writes it (R44, R107). -/
theorem operationOf_seed_ne_zero (i : Instr) {s : State} (h : s.blk.prng ≠ 0#31) :
    (operationOf i s).1.blk.prng ≠ 0#31 := by
  cases i with
  | seed => simpa [operationOf] using (condition_isSeed s.blk.arg).stored_ne_zero
  | next => simpa [operationOf] using (prngNext_isSeed (Block.prngWord_isSeed h)).stored_ne_zero
  | fill => simpa [operationOf] using (prngAfter_isSeed _ (Block.prngWord_isSeed h)).stored_ne_zero
  | _ => simpa [operationOf] using h

theorem State.runCommand_legal (i : Instr) {s : State} (h : s.blk.legal = true) :
    (s.runCommand i (operationOf i)).blk.legal = true := by
  obtain ⟨-, hseed, hal⟩ := s.blk.legal_iff.mp h
  obtain ⟨t, code, ht, hs⟩ := s.runCommand_finishes i
  rw [hs]
  rcases ht with rfl | rfl
  · exact State.finish_legal hseed hal code
  · obtain ⟨hbase, -⟩ := operationOf_keepsRegisters i s
    exact State.finish_legal (operationOf_seed_ne_zero i hseed) (hbase ▸ hal) code

theorem Block.accept_legal {b : Block} (h : b.legal = true) (w : Word) : (b.accept w).legal = true := by
  obtain ⟨-, hseed, hal⟩ := b.legal_iff.mp h
  exact (Block.legal_iff _).mpr ⟨(Block.statusLegal_iff _).mpr (.inl ⟨rfl, rfl⟩), hseed, hal⟩

theorem Block.writeRegister_seed_ne_zero {b : Block} (h : b.prng ≠ 0#31) (v : Word) (r : Option RegName) :
    (b.writeRegister v r).prng ≠ 0#31 := by
  cases r with
  | none => exact h
  | some r =>
    cases r with
    | prngState => exact prngOfHostWrite_ne_zero v
    | _ => exact h

theorem Block.writeRegister_legal {b : Block} (h : b.legal = true) (v : Word) (r : Option RegName) :
    (b.writeRegister v r).legal = true := by
  obtain ⟨hstatus, hseed, hal⟩ := b.legal_iff.mp h
  have hstatus' : (b.writeRegister v r).statusLegal = true :=
    (Block.statusLegal_iff _).mpr (by simpa using b.statusLegal_iff.mp hstatus)
  exact (Block.legal_iff _).mpr ⟨hstatus', Block.writeRegister_seed_ne_zero hseed v r, by simpa using hal⟩

/-- Every effect leaves the instance in focus legal; the others it does not touch (`Effect.samePlatform`). -/
theorem Effect.legal {f t : State} (he : Effect f t) (h : f.blk.legal = true) : t.blk.legal = true := by
  obtain ⟨-, hseed, hal⟩ := f.blk.legal_iff.mp h
  cases he with
  | rest => exact h
  | accept w => exact Block.accept_legal h w
  | writeRegister r v => exact Block.writeRegister_legal h v r
  | readRegister r =>
    rw [State.hostRead_frame]
    exact h
  | storeBytes a bytes => exact h
  | loadByte a => exact h
  | reset => exact Block.reset_legal hal
  | illegal w e => exact State.finish_legal hseed hal .illegalCmd
  | run w i => exact State.runCommand_legal i h

/-- Settles O56: a change of focus permutes the instances, the effect keeps the one in focus legal and the
others as they were, and no step changes a window (O58). -/
theorem stepKeepsRegistersLegal : Obligations.StepKeepsRegistersLegal := by
  intro s t ⟨hlegal, hnodup⟩ hstep
  obtain ⟨-, -, hwindows⟩ := stepKeepsParameters s t hstep
  obtain ⟨f, ⟨hperm, -⟩, he⟩ := step_effect hstep
  obtain ⟨-, -, -, hpeers⟩ := he.samePlatform
  have hfocus : f.blk.legal = true ∧ ∀ b ∈ f.peers, b.legal = true :=
    List.forall_mem_cons.mp fun b hb => hlegal b (hperm.mem_iff.mp hb)
  obtain ⟨hblk, hothers⟩ := hfocus
  refine ⟨List.forall_mem_cons.mpr ⟨he.legal hblk, ?_⟩, hwindows.nodup_iff.mpr hnodup⟩
  rw [hpeers]
  exact hothers

/-! ### A move acts on the instance it names -/

/-- How a move names its instance: by an address in its window (R71) or by its window's base (R344). A host
store or load names none. -/
def instanceNamedBy : Move → Option (Block → Bool)
  | .writeReg addr _ _ => some (Block.owns addr)
  | .readReg addr _ => some (Block.owns addr)
  | .waitIdle base => some (Block.isAt base)
  | .storeBytes _ _ => none
  | .loadByte _ => none
  | .resetInstance base => some (Block.isAt base)
  | .blockMoves base => some (Block.isAt base)

/-- An aligned window that holds an address is the one at the address's multiple of `REG_SPAN` (R12, R71). -/
theorem Block.regBase_eq_of_owns {b : Block} {addr : Nat} (h : b.owns addr = true) (hal : b.regBase % 0x40 = 0) :
    b.regBase = addr / 0x40 * 0x40 := by
  obtain ⟨hlow, hhigh⟩ := (b.owns_iff addr).mp h
  omega

theorem Block.regBase_eq_of_isAt {b : Block} {base : Nat} (h : b.isAt base = true) : b.regBase = base :=
  beq_iff_eq.mp h

/-- Where windows are aligned, the instances a move names share one window (R12, R71, R344). -/
theorem regBase_eq_of_instanceNamedBy {m : Move} {pick : Block → Bool} {b c : Block}
    (hm : instanceNamedBy m = some pick) (hb : pick b = true) (hc : pick c = true)
    (halb : b.regBase % 0x40 = 0) (halc : c.regBase % 0x40 = 0) : b.regBase = c.regBase := by
  have howns (addr : Nat) (hb : b.owns addr = true) (hc : c.owns addr = true) : b.regBase = c.regBase :=
    (Block.regBase_eq_of_owns hb halb).trans (Block.regBase_eq_of_owns hc halc).symm
  have hisAt (base : Nat) (hb : b.isAt base = true) (hc : c.isAt base = true) : b.regBase = c.regBase :=
    (Block.regBase_eq_of_isAt hb).trans (Block.regBase_eq_of_isAt hc).symm
  cases m <;> cases hm
  case writeReg addr _ _ => exact howns addr hb hc
  case readReg addr _ => exact howns addr hb hc
  case waitIdle base => exact hisAt base hb hc
  case resetInstance base => exact hisAt base hb hc
  case blockMoves base => exact hisAt base hb hc

/-- The one instance that a test picks comes into focus, and the others become the peers. -/
theorem State.focus_eq_of_unique {s : State} {pick : Block → Bool} {b : Block} (hmem : b ∈ s.instances)
    (hb : pick b = true) (hunique : ∀ c ∈ s.instances, pick c = true → c = b) :
    ∃ others, (b :: others).Perm s.instances ∧ s.focus pick = some { s with blk := b, peers := others } := by
  cases hf : s.focus pick with
  | none =>
    have hnone : pick b = false := State.focus_eq_none.mp hf b hmem
    simp [hb] at hnone
  | some t =>
    obtain ⟨hpick, hperm, heq⟩ := State.focus_spec hf
    obtain rfl : t.blk = b := hunique _ (hperm.mem_iff.mp (List.mem_cons_self ..)) hpick
    exact ⟨t.peers, hperm, congrArg some heq⟩

/-- A move that names an instance does what it does with that instance in focus already (log 13). -/
theorem State.move_eq_of_focus {s t : State} {m : Move} {pick : Block → Bool} (hm : instanceNamedBy m = some pick)
    (hf : s.focus pick = some t) : s.move m = t.move m := by
  obtain ⟨hpick, -, -⟩ := State.focus_spec hf
  have ht : t.focus pick = some t := State.focus_self hpick
  cases m <;> cases hm
  case writeReg => simp only [State.move, State.writeAt, hf, ht]
  case readReg => simp only [State.move, State.readAt, hf, ht]
  case waitIdle => simp only [State.move, State.waitAt, hf, ht]
  case resetInstance => simp only [State.move, State.resetAt, hf, ht]
  case blockMoves => simp only [State.move, State.blockStepAt, hf, ht]

/-- Everything a move that names the instance in focus can do: `State.move_effect` with no change of focus, and
with the schedule as `WAIT` may leave it. -/
theorem State.move_effect_of_self {s t : State} {m : Move} {pick : Block → Bool}
    (hm : instanceNamedBy m = some pick) (hpick : pick s.blk = true) (h : s.move m = .next t) :
    ∃ script, Effect { s with script := script } t := by
  have hs : s.focus pick = some s := State.focus_self hpick
  cases m <;> cases hm
  case writeReg addr width v =>
    simp only [State.move, State.writeAt, hs] at h
    split at h
    · exact ⟨s.script, .of_hostWrite h⟩
    · cases h
  case readReg addr width =>
    simp only [State.move, State.readAt, hs] at h
    split at h
    · cases h
      exact ⟨s.script, .readRegister _⟩
    · cases h
  case waitIdle base =>
    simp only [State.move, State.waitAt, hs] at h
    split at h
    · exact ⟨_, .of_blockStep h⟩
    · cases h
      exact ⟨s.script, .readRegister _⟩
  case resetInstance base =>
    simp only [State.move, State.resetAt, hs] at h
    cases h
    exact ⟨s.script, .reset⟩
  case blockMoves base =>
    simp only [State.move, State.blockStepAt, hs] at h
    exact ⟨s.script, .of_blockStep h⟩

/-- A move that names the instance in focus leaves the others alone. -/
theorem State.move_peers {s t : State} {m : Move} {pick : Block → Bool} (hm : instanceNamedBy m = some pick)
    (hpick : pick s.blk = true) (h : s.move m = .next t) : t.peers = s.peers := by
  obtain ⟨script, he⟩ := State.move_effect_of_self hm hpick h
  obtain ⟨-, -, -, hpeers⟩ := he.samePlatform
  exact hpeers

/-- Settles O60: the move's test picks `b` alone, so its step is that of the state with `b` in focus. -/
theorem movesActOnTheNamedInstance : Obligations.MovesActOnTheNamedInstance := by
  intro s b m rest hscript hmem hnodup hal hnames
  obtain ⟨pick, hm, hb⟩ : ∃ pick, instanceNamedBy m = some pick ∧ pick b = true := by
    cases m with
    | writeReg addr width v => exact ⟨_, rfl, (b.owns_iff addr).mpr hnames⟩
    | readReg addr width => exact ⟨_, rfl, (b.owns_iff addr).mpr hnames⟩
    | waitIdle base => exact ⟨_, rfl, beq_iff_eq.mpr hnames⟩
    | storeBytes a bytes => exact hnames.elim
    | loadByte a => exact hnames.elim
    | resetInstance base => exact ⟨_, rfl, beq_iff_eq.mpr hnames⟩
    | blockMoves base => exact ⟨_, rfl, beq_iff_eq.mpr hnames⟩
  have hunique : ∀ c ∈ s.instances, pick c = true → c = b := fun c hc hpick =>
    List.inj_on_of_nodup_map hnodup hc hmem
      (regBase_eq_of_instanceNamedBy hm hpick hb (hal c hc) (hal b hmem))
  obtain ⟨others, hperm, hfocus⟩ :=
    State.focus_eq_of_unique (s := { s with script := rest }) hmem hb hunique
  have hstep : step { s with blk := b, peers := others } =
      ({ s with script := rest, blk := b, peers := others } : State).move m :=
    step_of_script_cons (s := { s with blk := b, peers := others }) hscript
  have hsame : step s = step { s with blk := b, peers := others } :=
    (step_of_script_cons hscript).trans ((State.move_eq_of_focus hm hfocus).trans hstep.symm)
  refine ⟨others, hperm, hsame, fun t ht => ?_⟩
  exact State.move_peers hm hb (hstep.symm.trans (hsame.symm.trans ht))

end Sys2Proof.Machine
end


section
/-! PROOFS. How many bytes the LZSS engines write at most (spec/45_lzss_decode.md R266, spec/46_lzss_encode.md
R290, R303), so that the checks of R144 bound what `LZD` and `LZE` store. -/

namespace Sys2Proof.Machine

/-! ### The decoder writes no more than the expected size -/

/-- The decoder has emitted as many bytes as it counts, and no more than the expected size (R266). -/
def LzdScratch.Within (exp : Nat) (st : LzdScratch) : Prop :=
  st.out.length = st.produced ∧ st.produced ≤ exp

/-- The same of a part of a decode that goes on, or stops with `SIZE_OVER`. -/
def WithinResult (exp : Nat) : Except LzdScratch LzdScratch → Prop
  | .ok st => st.Within exp
  | .error st => st.Within exp

theorem lzdEmit_within {exp : Nat} {st : LzdScratch} (h : st.Within exp) (c : Byte) :
    WithinResult exp (lzdEmit exp st c) := by
  obtain ⟨hout, hle⟩ := h
  unfold lzdEmit
  split
  · exact ⟨hout, hle⟩
  · exact ⟨congrArg (· + 1) hout, by simp only; omega⟩

theorem lzdCopy_within {exp : Nat} (len off : Nat) {st : LzdScratch} (h : st.Within exp) :
    WithinResult exp (lzdCopy exp len off st) := by
  induction len generalizing off st with
  | zero => exact h
  | succ len ih =>
    have hemit := lzdEmit_within h (st.ring.read off)
    unfold lzdCopy
    split
    · rename_i st' hst
      rw [hst] at hemit
      exact ih (off + 1) hemit
    · rename_i st' hst
      rw [hst] at hemit
      exact hemit

theorem lzdNextFlags_within {exp : Nat} {st st' : LzdScratch} (h : st.Within exp)
    (hst : lzdNextFlags st = some st') : st'.Within exp := by
  unfold lzdNextFlags at hst
  split at hst
  · obtain rfl := Option.some.inj hst
    exact h
  · split at hst
    · cases hst
    · obtain rfl := Option.some.inj hst
      exact h

theorem lzdItem_within {exp : Nat} {st : LzdScratch} {res : Except LzdScratch LzdScratch} (h : st.Within exp)
    (hres : lzdItem exp st = some res) : WithinResult exp res := by
  unfold lzdItem at hres
  split at hres
  · split at hres
    · cases hres
    · rename_i c rest _
      obtain rfl := Option.some.inj hres
      exact lzdEmit_within (st := { st with rest := rest }) h c
  · split at hres
    · rename_i b1 b2 rest _
      obtain rfl := Option.some.inj hres
      exact lzdCopy_within _ _ (st := { st with rest := rest }) h
    · cases hres
    · cases hres

theorem lzdLoop_within {exp : Nat} (n : Nat) {st : LzdScratch} (h : st.Within exp) :
    WithinResult exp (lzdLoop exp n st) := by
  induction n generalizing st with
  | zero => exact h
  | succ n ih =>
    unfold lzdLoop
    split
    · exact h
    · rename_i st' hflags
      have hst' := lzdNextFlags_within h hflags
      split
      · exact hst'
      · rename_i hitem
        exact ih (lzdItem_within hst' hitem)
      · rename_i hitem
        exact lzdItem_within hst' hitem

/-- R266: a decode writes at most the expected size, whatever its code. -/
theorem length_lzssDecode_le (input : List Byte) (exp : Nat) : (lzssDecode input exp).bytes.length ≤ exp := by
  have hstart : (lzdStart input).Within exp := ⟨rfl, Nat.zero_le exp⟩
  have hloop := lzdLoop_within input.length hstart
  unfold lzssDecode
  split
  all_goals
    rename_i st hst
    rw [hst] at hloop
    obtain ⟨hout, hle⟩ := hloop
    rw [List.length_reverse, hout]
    exact hle

/-! ### The encoder writes no more than its worst case -/

/-- The input bytes the encoder has still to code: the lookahead and what is behind it (R294). -/
def LzeScratch.left (st : LzeScratch) : Nat :=
  st.len + st.rest.length

/-- What the packets cost so far (R291, R292), for `coded` input bytes: no item has more bytes than it codes, and
each packet adds its command byte. `packets` are flushed, and `items` stand in the open one. -/
def LzeScratch.Packed (coded : Nat) (st : LzeScratch) : Prop :=
  ∃ packets items, items < 8 ∧ st.mask = 1#8 <<< items ∧ 8 * packets + items ≤ coded ∧
    st.out.length + (st.pkt.length - 1) ≤ coded + packets ∧ (items = 0 → st.pkt.length ≤ 1)

/-- The packet part of the scratch: what the search and the ring never touch. -/
def LzeScratch.SamePackets (st st' : LzeScratch) : Prop :=
  st'.pkt = st.pkt ∧ st'.mask = st.mask ∧ st'.out = st.out

theorem LzeScratch.Packed.congr {coded : Nat} {st st' : LzeScratch} (h : st.Packed coded)
    (hsame : st.SamePackets st') : st'.Packed coded := by
  obtain ⟨hpkt, hmask, hout⟩ := hsame
  unfold LzeScratch.Packed
  rw [hpkt, hmask, hout]
  exact h

/-- An item of at most as many bytes as it codes (R291): the eighth one of a packet flushes it. -/
theorem lzeItemDone_packed {coded bytes : Nat} {st : LzeScratch} {pkt : List Byte} (h : st.Packed coded)
    (hpkt : pkt.length ≤ st.pkt.length + bytes) (hbytes : 1 ≤ bytes) :
    (lzeItemDone { st with pkt := pkt }).Packed (coded + bytes) := by
  obtain ⟨packets, items, hitems, hmask, hcoded, hsize, -⟩ := h
  have hshift : st.mask <<< 1 = 1#8 <<< (items + 1) := by rw [hmask, BitVec.shiftLeft_add]
  by_cases hlast : items = 7
  · subst hlast
    have hdone : lzeItemDone { st with pkt := pkt } =
        lzeFlush { st with pkt := pkt, mask := st.mask <<< 1 } := if_pos (hshift.trans (by decide))
    refine ⟨packets + 1, 0, by omega, ?_, by omega, ?_, fun _ => ?_⟩
    all_goals rw [hdone]
    · rfl
    · simp only [lzeFlush, List.length_append, List.length_singleton]
      omega
    · exact Nat.le_refl 1
  · have hne : ∀ k < 8, (1#8 <<< k : Byte) ≠ 0#8 := by decide
    have hdone : lzeItemDone { st with pkt := pkt } = { st with pkt := pkt, mask := st.mask <<< 1 } :=
      if_neg (hshift ▸ hne (items + 1) (by omega))
    refine ⟨packets, items + 1, by omega, ?_, by omega, ?_, fun h0 => absurd h0 (by omega)⟩
    all_goals rw [hdone]
    · exact hshift
    · simp only
      omega

theorem appendLiteral_packed {coded : Nat} {st : LzeScratch} (h : st.Packed coded) (c : Byte) :
    (appendLiteral st c).Packed (coded + 1) :=
  lzeItemDone_packed h (by simp) (Nat.le_refl 1)

theorem appendRef_packed {coded : Nat} {st : LzeScratch} (h : st.Packed coded) (p : Nat) {l : Nat}
    (hl : lzMin ≤ l) : (appendRef st p l).Packed (coded + l) :=
  have hlong : 3 ≤ l := hl
  lzeItemDone_packed h (by simp [refBytes]; omega) (by omega)

@[simp] theorem lzeItemDone_left (st : LzeScratch) : (lzeItemDone st).left = st.left := by
  unfold lzeItemDone
  simp only
  split <;> rfl

@[simp] theorem lzeInsert_left (st : LzeScratch) (p : Nat) : (lzeInsert st p).left = st.left := rfl

@[simp] theorem lzeDelete_left (st : LzeScratch) (p : Nat) : (lzeDelete st p).left = st.left := rfl

@[simp] theorem appendLiteral_left (st : LzeScratch) (c : Byte) : (appendLiteral st c).left = st.left :=
  lzeItemDone_left _

@[simp] theorem appendRef_left (st : LzeScratch) (p l : Nat) : (appendRef st p l).left = st.left :=
  lzeItemDone_left _

theorem lzeInsert_samePackets (st : LzeScratch) (p : Nat) : st.SamePackets (lzeInsert st p) :=
  ⟨rfl, rfl, rfl⟩

/-- A turn of the advance takes in the next input byte, or shrinks the lookahead (R300). -/
theorem lzeRefill_left (st : LzeScratch) : (lzeRefill st).left = st.left - 1 := by
  unfold lzeRefill
  split
  · rename_i c rest hrest
    simp [LzeScratch.left, hrest]
  · rename_i hrest
    simp [LzeScratch.left, hrest]

theorem lzeRefill_samePackets (st : LzeScratch) : st.SamePackets (lzeRefill st) := by
  unfold lzeRefill
  split <;> exact ⟨rfl, rfl, rfl⟩

/-- The advance past `k` coded bytes (R300, R301) leaves the packets alone and `k` bytes less to code. -/
theorem lzeAdvance_spec (k : Nat) (st : LzeScratch) :
    st.SamePackets (lzeAdvance k st) ∧ (lzeAdvance k st).left = st.left - k := by
  induction k generalizing st with
  | zero => exact ⟨⟨rfl, rfl, rfl⟩, rfl⟩
  | succ k ih =>
    obtain ⟨hpkt, hmask, hout⟩ := lzeRefill_samePackets (lzeDelete st st.s)
    have hcount : (lzeRefill (lzeDelete st st.s)).left - k = st.left - (k + 1) := by
      rw [lzeRefill_left, lzeDelete_left]
      omega
    unfold lzeAdvance
    simp only
    split
    all_goals
      obtain ⟨⟨hpkt', hmask', hout'⟩, hleft'⟩ := ih _
      exact ⟨⟨hpkt'.trans hpkt, hmask'.trans hmask, hout'.trans hout⟩, hleft'.trans hcount⟩

theorem matchLength_le (t : Ring) (cap p r : Nat) : matchLength t cap p r ≤ cap := by
  induction cap generalizing p r with
  | zero => exact Nat.le_refl 0
  | succ cap ih =>
    unfold matchLength
    split
    · exact Nat.succ_le_succ (ih _ _)
    · exact Nat.zero_le _

/-- The search never finds more than the lookahead holds (R297, R298). -/
theorem bestMatch_length_le (st : LzeScratch) : (bestMatch st).length ≤ st.len := by
  unfold bestMatch
  refine List.foldlRecOn st.index _ (motive := fun (best : Match) => best.length ≤ st.len) (Nat.zero_le _) ?_
  intro best hbest e _
  unfold betterMatch
  simp only
  split
  · exact (matchLength_le _ _ _ _).trans (Nat.min_le_right _ _)
  · exact hbest

/-- One turn (R299, R300) codes some bytes of the lookahead and packs them. -/
theorem lzeTurn_packed {coded : Nat} {st : LzeScratch} (h : st.Packed coded) (hlen : 0 < st.len) :
    ∃ bytes, bytes ≤ st.left ∧ (lzeTurn st).left = st.left - bytes ∧
      (lzeTurn st).Packed (coded + bytes) := by
  have hins : (lzeInsert st st.r).Packed coded := h.congr (lzeInsert_samePackets st st.r)
  have hle : st.len ≤ st.left := Nat.le_add_right _ _
  unfold lzeTurn
  simp only
  split
  · obtain ⟨hsame, hleft⟩ := lzeAdvance_spec 1
      (appendLiteral (lzeInsert st st.r) ((lzeInsert st st.r).ring.read (lzeInsert st st.r).r))
    exact ⟨1, by omega, by simpa using hleft, (appendLiteral_packed hins _).congr hsame⟩
  · rename_i hlong
    have hlong : 3 ≤ (bestMatch st).length := Nat.not_lt.mp hlong
    obtain ⟨hsame, hleft⟩ := lzeAdvance_spec (bestMatch st).length
      (appendRef (lzeInsert st st.r) (bestMatch st).pos (bestMatch st).length)
    exact ⟨(bestMatch st).length, (bestMatch_length_le st).trans hle, by simpa using hleft,
      (appendRef_packed hins _ hlong).congr hsame⟩

/-- The loop (R302) packs some part of the input. -/
theorem lzeLoop_packed (n : Nat) {coded : Nat} {st : LzeScratch} (h : st.Packed coded) :
    ∃ coded', coded' ≤ coded + st.left ∧ (lzeLoop n st).Packed coded' := by
  induction n generalizing coded st with
  | zero => exact ⟨coded, Nat.le_add_right _ _, h⟩
  | succ n ih =>
    unfold lzeLoop
    split
    · rename_i hlen
      obtain ⟨bytes, hbytes, hleft, hturn⟩ := lzeTurn_packed h hlen
      obtain ⟨coded', hle, hpacked⟩ := ih hturn
      exact ⟨coded', by omega, hpacked⟩
    · exact ⟨coded, Nat.le_add_right _ _, h⟩

/-- After the drain (R293) every command byte stands for at least one coded byte. -/
theorem length_lzeDrain_le {coded : Nat} {st : LzeScratch} (h : st.Packed coded) :
    (lzeDrain st).out.length ≤ worstCaseEncoded coded := by
  obtain ⟨packets, items, -, -, hcoded, hsize, hempty⟩ := h
  unfold lzeDrain worstCaseEncoded
  split
  · simp only [lzeFlush, List.length_append]
    omega
  · omega

theorem lzePrime_spec (st : LzeScratch) : st.SamePackets (lzePrime st) ∧ (lzePrime st).left = st.left := by
  unfold lzePrime
  refine List.foldlRecOn _ _ (motive := fun st' => st.SamePackets st' ∧ st'.left = st.left)
    ⟨⟨rfl, rfl, rfl⟩, rfl⟩ ?_
  intro st' h _ _
  exact h

/-- R303: the size bound of the reference encoder. -/
theorem length_lzssEncode_le (input : List Byte) :
    (lzssEncode input).length ≤ worstCaseEncoded input.length := by
  unfold lzssEncode
  split
  · exact Nat.zero_le _
  · have hstart : (lzeStart input).Packed 0 :=
      ⟨0, 0, by omega, rfl, le_rfl, le_rfl, fun _ => le_rfl⟩
    have hall : (lzeStart input).left = input.length := by
      simp [LzeScratch.left, lzeStart]
      omega
    obtain ⟨hsame, hleft⟩ := lzePrime_spec (lzeStart input)
    obtain ⟨coded, hle, hpacked⟩ := lzeLoop_packed input.length (hstart.congr hsame)
    have hdrain := length_lzeDrain_le hpacked
    unfold worstCaseEncoded at hdrain ⊢
    omega

theorem length_relationalEncode_le (k : Nat) (input : List Byte) :
    (relationalEncode k input).length ≤ worstCaseEncoded input.length := by
  unfold relationalEncode
  split
  · rename_i hmeets
    simp only [meetsContract, Bool.and_eq_true, decide_eq_true_eq] at hmeets
    obtain ⟨⟨-, hsize⟩, -⟩ := hmeets
    exact hsize
  · exact length_lzssEncode_le input

/-- R303, R290 (c): the size bound of `LZE` in both modes. -/
theorem State.length_encoded_le (s : State) (input : List Byte) :
    (s.encoded input).length ≤ worstCaseEncoded input.length := by
  unfold State.encoded
  split
  · exact length_lzssEncode_le input
  · exact length_relationalEncode_le s.draws input

end Sys2Proof.Machine
end

section
/-! PROOFS. Buffer memory (spec/20_memory.md): what a command stores, what every step keeps of memory and of the
ranges of pending commands, and the host's accesses. -/

namespace Sys2Proof.Machine

/-! ### What a command stores -/

/-- `t` has the memory of `s`, but for bytes stored from the start of the written range `r` on and inside it. -/
def State.StoresInto (s t : State) (r : OperandRange) : Prop :=
  r.written = true ∧ ∃ bytes : List Byte, bytes.length ≤ r.len ∧ t.mem = s.mem.writeBytes r.addr bytes

theorem le_dstLen_of_capacity {b : Block} (h : capacityMissing .lze b = false) :
    worstCaseEncoded b.srcLen.toNat ≤ b.dstLen.toNat := by
  simpa [capacityMissing] using h

/-- R107, third column: an operation stores nothing, or bytes inside one of its command's written ranges. -/
theorem operationOf_stores (i : Instr) (s : State) (hcap : capacityMissing i s.blk = false) :
    (operationOf i s).1.mem = s.mem ∨ ∃ r ∈ operandRanges i s.blk, s.StoresInto (operationOf i s).1 r := by
  have hkey (name : List Byte) (randomize : Bool) (game : Game) :
      s.StoresInto (s.deliverKey (makeKey name randomize game)) s.blk.keyOutRange :=
    ⟨rfl, makeKey name randomize game, (length_makeKey name randomize game).le, rfl⟩
  cases i with
  | nop => exact .inl rfl
  | crc32 => exact .inl rfl
  | seed => exact .inl rfl
  | next => exact .inl rfl
  | fill => exact .inr ⟨s.blk.destRange, .head _, rfl, _, (length_prngFill _ _).le, rfl⟩
  | keygenAdk => exact .inr ⟨s.blk.keyOutRange, .head _, hkey _ _ _⟩
  | keygenAdkR => exact .inr ⟨s.blk.keyOutRange, .tail _ (.head _), hkey _ _ _⟩
  | keygenDng => exact .inr ⟨s.blk.keyOutRange, .head _, hkey _ _ _⟩
  | keygenDngR => exact .inr ⟨s.blk.keyOutRange, .tail _ (.head _), hkey _ _ _⟩
  | obf =>
    have hlen : (obfuscate s.sourceBytes s.keyBytes).length ≤ s.blk.srcLen.toNat := by simp
    exact .inr ⟨s.blk.dataRange, .head _, rfl, _, hlen, rfl⟩
  | lzd => exact .inr ⟨s.blk.destRange, .tail _ (.head _), rfl, _, length_lzssDecode_le _ _, rfl⟩
  | lze =>
    have hlen : (s.encoded s.sourceBytes).length ≤ s.blk.dstLen.toNat :=
      (s.length_encoded_le _).trans (by simpa using le_dstLen_of_capacity hcap)
    exact .inr ⟨s.blk.destRange, .tail _ (.head _), rfl, _, hlen, State.afterEncode_mem _⟩

/-- The checks that have passed where none raises (R144). -/
theorem checks_of_operandError_eq_none {i : Instr} {b : Block} {memSize : Nat}
    (h : operandError i b memSize = none) :
    (∀ r ∈ operandRanges i b, RangeOk r.addr r.len memSize) ∧ capacityMissing i b = false := by
  rcases operandError_cases i b memSize with ⟨he, -⟩ | ⟨he, -⟩ | ⟨he, -⟩ | ⟨-, hvalid, -, hcap⟩
  · cases h.symm.trans he
  · cases h.symm.trans he
  · cases h.symm.trans he
  · exact ⟨fun r hr => (r.valid_iff memSize).mp (hvalid r hr), hcap⟩

/-! ### Bytes the host may access -/

/-- The ranges of a pending command are those of its decoded word (R107). -/
theorem Block.pendingRanges_of_pending {b : Block} {w : Word} {i : Instr} (hp : b.pending = some w)
    (hd : decode w = .ok i) : b.pendingRanges = operandRanges i b := by
  simp [Block.pendingRanges, hp, hd]

/-- Only a pending legal command has ranges (R107, R331). -/
theorem Block.mem_pendingRanges_iff {b : Block} {r : OperandRange} :
    r ∈ b.pendingRanges ↔ ∃ w i, b.pending = some w ∧ decode w = .ok i ∧ r ∈ operandRanges i b := by
  constructor
  · intro hr
    unfold Block.pendingRanges at hr
    split at hr
    · cases hr
    · rename_i w hp
      split at hr
      · rename_i i hd
        exact ⟨w, i, hp, hd, hr⟩
      · cases hr
  · rintro ⟨w, i, hp, hd, hr⟩
    rwa [Block.pendingRanges_of_pending hp hd]

theorem OperandRange.covers_iff (r : OperandRange) (x : Nat) :
    r.covers x = true ↔ r.addr ≤ x ∧ x < r.addr + r.len := by
  simp [OperandRange.covers]

theorem State.inFlight_iff (s : State) (x : Nat) :
    s.inFlight x = true ↔ ∃ b ∈ s.instances, ∃ r ∈ b.pendingRanges, r.addr ≤ x ∧ x < r.addr + r.len := by
  simp only [State.inFlight, State.instances, List.any_eq_true, OperandRange.covers_iff]

/-- Where every byte exists (R70), only a byte in flight stops the host (R88). -/
theorem State.memoryStop_of_rangeOk {s : State} {a n : Nat} (h : RangeOk a n s.memSize) :
    s.memoryStop a n =
      if (List.range n).any (fun k => s.inFlight (a + k)) then some .inFlightAccess else none := by
  have hexist : (List.range n).any (fun k => decide (s.memSize ≤ a + k)) = false := by
    simp only [List.any_eq_false, List.mem_range, decide_eq_true_eq]
    omega
  simp [State.memoryStop, hexist]

theorem State.memoryStop_eq_none {s : State} {a n : Nat} (hexist : RangeOk a n s.memSize)
    (hfree : ∀ x, a ≤ x → x < a + n → s.inFlight x = false) : s.memoryStop a n = none := by
  have hnone : (List.range n).any (fun k => s.inFlight (a + k)) = false :=
    List.any_eq_false.mpr fun k hk => by
      have hk : k < n := List.mem_range.mp hk
      simp [hfree (a + k) (by omega) (by omega)]
  simp [State.memoryStop_of_rangeOk hexist, hnone]

theorem State.memoryStop_eq_inFlight {s : State} {a n x : Nat} (hexist : RangeOk a n s.memSize)
    (hlow : a ≤ x) (hhigh : x < a + n) (hx : s.inFlight x = true) :
    s.memoryStop a n = some .inFlightAccess := by
  have hsome : (List.range n).any (fun k => s.inFlight (a + k)) = true :=
    List.any_eq_true.mpr ⟨x - a, List.mem_range.mpr (by omega), by rwa [Nat.add_sub_cancel' hlow]⟩
  simp [State.memoryStop_of_rangeOk hexist, hsome]

theorem State.rangeOk_of_memoryStop_none {s : State} {a n : Nat} (h : s.memoryStop a n = none) :
    RangeOk a n s.memSize := by
  cases n with
  | zero => exact .inl rfl
  | succ n =>
    obtain ⟨hlast, -⟩ := State.memoryStop_none h n (Nat.lt_succ_self n)
    exact .inr hlast

/-! ### Every step keeps buffer memory legal -/

theorem State.MemoryLegal.congr {s t : State} (h : s.MemoryLegal) (hmem : t.mem = s.mem)
    (hsize : t.memSize = s.memSize) : t.MemoryLegal := by
  unfold State.MemoryLegal
  rw [hmem, hsize]
  exact h

/-- Bytes that exist may be stored (R70). -/
theorem State.MemoryLegal.of_writeBytes {s t : State} {a : Nat} {bytes : List Byte} (h : s.MemoryLegal)
    (hfit : RangeOk a bytes.length s.memSize) (hmem : t.mem = s.mem.writeBytes a bytes)
    (hsize : t.memSize = s.memSize) : t.MemoryLegal := by
  obtain ⟨hwf, hcells, hlow, hhigh⟩ := h
  unfold State.MemoryLegal
  rw [hmem, hsize]
  refine ⟨Memory.writeBytes_wf hwf a bytes, fun c hc => ?_, hlow, hhigh⟩
  rcases Memory.mem_writeBytes hc with hold | ⟨hge, hlt⟩
  · exact hcells c hold
  · omega

/-- The free values of a discarded range go only to bytes that exist (R371). -/
theorem State.MemoryLegal.discardRange {s : State} (h : s.MemoryLegal) (r : OperandRange) :
    (s.discardRange r).MemoryLegal := by
  obtain ⟨hwf, hcells, hlow, hhigh⟩ := h
  unfold State.discardRange
  split
  · exact ⟨Memory.havoc_wf hwf _ _ _ _, fun c hc => (Memory.mem_havoc hc).elim (hcells c) id, hlow, hhigh⟩
  · exact ⟨hwf, hcells, hlow, hhigh⟩

theorem State.MemoryLegal.resetFocus {s : State} (h : s.MemoryLegal) : s.resetFocus.MemoryLegal :=
  List.foldlRecOn s.blk.pendingRanges _ (motive := State.MemoryLegal) h fun _ ht r _ => ht.discardRange r

/-- The ranges are checked before the operation (R144), and it stores inside them. -/
theorem State.MemoryLegal.runCommand {s : State} (h : s.MemoryLegal) (i : Instr) :
    (s.runCommand i (operationOf i)).MemoryLegal := by
  obtain ⟨hsize, -⟩ := s.runCommand_samePlatform i
  rcases s.runCommand_cases i (operationOf i) with ⟨code, -, hs⟩ | ⟨hok, hs⟩
  · exact hs ▸ h
  · obtain ⟨hvalid, hcap⟩ := checks_of_operandError_eq_none hok
    have hmem : (s.runCommand i (operationOf i)).mem = (operationOf i s).1.mem := by simp [hs]
    rcases operationOf_stores i s hcap with hsame | ⟨r, hr, -, bytes, hlen, hstores⟩
    · exact h.congr (hmem.trans hsame) hsize
    · have hfit : RangeOk r.addr bytes.length s.memSize := by
        have hrange := hvalid r hr
        omega
      exact h.of_writeBytes hfit (hmem.trans hstores) hsize

theorem Effect.memoryLegal {f t : State} (he : Effect f t) (h : f.MemoryLegal) : t.MemoryLegal := by
  cases he with
  | rest => exact h
  | accept w => exact h
  | writeRegister r v => exact h
  | readRegister r =>
    rw [State.hostRead_frame]
    exact h
  | storeBytes a bytes hfree => exact h.of_writeBytes (State.rangeOk_of_memoryStop_none hfree) rfl rfl
  | loadByte a => exact h
  | reset => exact h.resetFocus
  | illegal w e => exact h
  | run w i => exact h.runCommand i

/-- Settles O55: a change of focus keeps memory as it is, and every effect keeps it legal; of these only a host
store, a reset and a command write memory. -/
theorem stepKeepsMemoryLegal : Obligations.StepKeepsMemoryLegal := by
  intro s t hs hstep
  obtain ⟨f, ⟨-, script, hf⟩, he⟩ := step_effect hstep
  have hfocus : f.MemoryLegal := by
    rw [hf]
    exact hs
  exact he.memoryLegal hfocus

/-! ### Every step keeps the ranges of pending commands apart -/

/-- A legal instance is busy exactly while a command is pending (R35, R46). -/
theorem Block.pending_eq_none_of_idle {b : Block} (h : b.legal = true) (hidle : b.busy = false) :
    b.pending = none := by
  obtain ⟨-, -, -, hbusy, -⟩ := legalStatusFields b h
  exact Option.not_isSome_iff_eq_none.mp fun hp => Bool.eq_false_iff.mp hidle (hbusy.mpr hp)

theorem Block.pending_ne_none_of_busy {b : Block} (h : b.legal = true) (hbusy : b.busy = true) :
    b.pending ≠ none := by
  obtain ⟨-, -, -, hiff, -⟩ := legalStatusFields b h
  exact Option.isSome_iff_ne_none.mp (hiff.mp hbusy)

theorem State.exclusive_iff (s : State) :
    s.Exclusive ↔ s.conflict = false ∧
      s.peers.Pairwise (fun b c => rangesConflict b.pendingRanges c.pendingRanges = false) := by
  rw [State.conflict_eq_false_iff]
  exact List.pairwise_cons

/-- `Exclusive` does not see which instance is in focus. -/
theorem State.Exclusive.perm {s t : State} (h : s.Exclusive) (hperm : t.instances.Perm s.instances) :
    t.Exclusive :=
  hperm.symm.pairwise h fun hbc => by rwa [rangesConflict_comm]

theorem State.conflict_eq_false_of_idle {s : State} (h : s.blk.pending = none) : s.conflict = false :=
  (State.conflict_eq_false_iff s).mpr fun p _ => by simp [Block.pendingRanges_of_none h, rangesConflict]

/-- No effect brings the instance in focus into a conflict: an accepted word was checked for one (R89), and
every other effect leaves the pending command as it was, or leaves none. -/
theorem Effect.conflict_eq_false {f t : State} (he : Effect f t) (hlegal : f.blk.legal = true)
    (h : f.conflict = false) : t.conflict = false := by
  cases he with
  | rest => exact h
  | accept w hidle hfree => exact hfree
  | writeRegister r v hidle =>
    have hnone : f.blk.pending = none := Block.pending_eq_none_of_idle hlegal hidle
    exact State.conflict_eq_false_of_idle (by simpa using hnone)
  | readRegister r =>
    rw [State.hostRead_frame]
    exact h
  | storeBytes a bytes => exact h
  | loadByte a => exact h
  | reset => exact State.conflict_eq_false_of_idle rfl
  | illegal w e => exact State.conflict_eq_false_of_idle rfl
  | run w i =>
    obtain ⟨u, code, -, hs⟩ := f.runCommand_finishes i
    exact State.conflict_eq_false_of_idle (by simp [hs])

/-- Settles O57: `Exclusive` holds with any instance in focus, the effect keeps that one clear of the others, and
the others are as they were. -/
theorem stepKeepsPendingExclusive : Obligations.StepKeepsPendingExclusive := by
  rintro s t ⟨hlegal, -⟩ hs hstep
  obtain ⟨f, ⟨hperm, -⟩, he⟩ := step_effect hstep
  obtain ⟨-, -, -, hpeers⟩ := he.samePlatform
  obtain ⟨hconflict, hothers⟩ := f.exclusive_iff.mp (State.Exclusive.perm hs hperm)
  have hblk : f.blk.legal = true := hlegal _ (hperm.mem_iff.mp (List.mem_cons_self ..))
  exact t.exclusive_iff.mpr ⟨he.conflict_eq_false hblk hconflict, hpeers ▸ hothers⟩

/-! ### Host stores and loads -/

theorem step_storeBytes {s : State} {a : Nat} {bytes : List Byte} {rest : List Move}
    (hscript : s.script = .storeBytes a bytes :: rest) :
    step s = ({ s with script := rest } : State).hostStore a bytes :=
  step_of_script_cons hscript

theorem step_loadByte {s : State} {a : Nat} {rest : List Move} (hscript : s.script = .loadByte a :: rest) :
    step s = ({ s with script := rest } : State).hostLoad a :=
  step_of_script_cons hscript

theorem State.hostStore_of_fault {s : State} {a : Nat} {bytes : List Byte} {f : Fault}
    (h : s.memoryStop a bytes.length = some f) : s.hostStore a bytes = .fault f := by
  simp [State.hostStore, h]

theorem State.hostStore_of_free {s : State} {a : Nat} {bytes : List Byte}
    (h : s.memoryStop a bytes.length = none) : s.hostStore a bytes = .next (s.storeBytes a bytes) := by
  simp [State.hostStore, h]

theorem State.hostLoad_of_fault {s : State} {a : Nat} {f : Fault} (h : s.memoryStop a 1 = some f) :
    s.hostLoad a = .fault f := by
  simp [State.hostLoad, h]

theorem State.hostLoad_of_free {s : State} {a : Nat} (h : s.memoryStop a 1 = none) :
    s.hostLoad a = .next { s with rdata := zext32 (s.mem.read a) } := by
  simp [State.hostLoad, h]

/-- Settles O47: the byte at `x` is in flight, and every byte of the access exists. -/
theorem inFlightAccessFaults : Obligations.InFlightAccessFaults := by
  intro s b w i r a x bytes rest hb hp hd hr hlow hhigh
  have hranges : r ∈ b.pendingRanges := Block.mem_pendingRanges_iff.mpr ⟨w, i, hp, hd, hr⟩
  have hx : ({ s with script := rest } : State).inFlight x = true :=
    (State.inFlight_iff _ x).mpr ⟨b, hb, r, hranges, hlow, hhigh⟩
  constructor
  · intro hax hxa hexist hscript
    rw [step_storeBytes hscript]
    exact State.hostStore_of_fault (State.memoryStop_eq_inFlight (.inr hexist) hax hxa hx)
  · intro hexist hscript
    rw [step_loadByte hscript]
    exact State.hostLoad_of_fault
      (State.memoryStop_eq_inFlight (.inr hexist) (Nat.le_refl x) (Nat.lt_succ_self x) hx)

/-- A byte that no operand range of a pending legal command holds is not in flight (R88). -/
theorem State.inFlight_eq_false {s : State} {x : Nat}
    (h : ∀ b ∈ s.instances, ∀ (w : Word) (i : Instr), b.pending = some w → decode w = .ok i →
      ∀ r ∈ operandRanges i b, OutsideBytes r.addr r.len x) : s.inFlight x = false := by
  refine Bool.eq_false_iff.mpr fun hx => ?_
  obtain ⟨b, hb, r, hr, hlow, hhigh⟩ := (s.inFlight_iff x).mp hx
  obtain ⟨w, i, hp, hd, hmem⟩ := Block.mem_pendingRanges_iff.mp hr
  have hout := h b hb w i hp hd r hmem
  omega

/-- Settles O48: nothing stops the access, and the bytes stored read back from canonical memory. -/
theorem hostStoresAndLoads : Obligations.HostStoresAndLoads := by
  intro s a bytes rest hwf notInFlight
  constructor
  · intro hexist hfree hscript
    have hgo : ({ s with script := rest } : State).memoryStop a bytes.length = none :=
      State.memoryStop_eq_none (.inr hexist) fun x hlow hhigh => State.inFlight_eq_false (hfree x hlow hhigh)
    exact ⟨({ s with script := rest } : State).storeBytes a bytes,
      (step_storeBytes hscript).trans (State.hostStore_of_free hgo), rfl,
      Memory.read_writeBytes_same s.mem hwf a bytes, Memory.read_writeBytes_other s.mem a bytes⟩
  · intro hexist hfree hscript
    have hgo : ({ s with script := rest } : State).memoryStop a 1 = none :=
      State.memoryStop_eq_none (.inr hexist) fun x hlow hhigh => by
        obtain rfl : x = a := by omega
        exact State.inFlight_eq_false hfree
    exact (step_loadByte hscript).trans (State.hostLoad_of_free hgo)

/-! ### Refused and conflicting register accesses -/

theorem accessSupported_odd {base offset width : Nat} (h : width ≠ 4 ∨ offset % 4 ≠ 0) :
    accessSupported base (base + offset) width = false := by
  rw [accessSupported, Nat.add_sub_cancel_left, Bool.and_eq_false_iff, beq_eq_false_iff_ne,
    beq_eq_false_iff_ne]
  exact h

/-- Settles O46: the address is in the window of the instance in focus, and the access is not one word. -/
theorem oddAccessesRefused : Obligations.OddAccessesRefused := by
  intro s offset width v hlt hodd
  have howns : s.focus (Block.owns (s.blk.regBase + offset)) = some s := State.focus_self (Block.owns_offset hlt)
  have hodd : accessSupported s.blk.regBase (s.blk.regBase + offset) width = false := accessSupported_odd hodd
  constructor
  · simp [State.writeAt, howns, hodd]
  · simp [State.readAt, howns, hodd]

/-- Acceptance leaves the operand registers, and so the ranges, as they were (R140). -/
@[simp] theorem operandRanges_accept (i : Instr) (b : Block) (w : Word) :
    operandRanges i (b.accept w) = operandRanges i b := by
  cases i <;> rfl

theorem rangesConflict_of_mem {rs qs : List OperandRange} {r q : OperandRange} (hr : r ∈ rs) (hq : q ∈ qs)
    (hmeet : ¬ RangesApart r.addr r.len q.addr q.len) (hwrite : r.written = true ∨ q.written = true) :
    rangesConflict rs qs = true := by
  refine List.any_eq_true.mpr ⟨r, hr, List.any_eq_true.mpr ⟨q, hq, ?_⟩⟩
  rw [(r.overlaps_iff q).mpr hmeet, Bool.true_and, Bool.or_eq_true]
  exact hwrite

theorem State.writeCmd_of_conflict {s : State} {p : Block} {w : Word} (hp : p ∈ s.peers)
    (hmeet : rangesConflict (s.blk.accept w).pendingRanges p.pendingRanges = true) :
    s.writeCmd w = .fault .instanceConflict := by
  have hconflict : ({ s with blk := s.blk.accept w } : State).conflict = true :=
    List.any_eq_true.mpr ⟨p, hp, hmeet⟩
  simp [State.writeCmd, hconflict]

/-- Settles O49: the accepted word's ranges meet those pending at `p`, so the write of `CMD` faults. -/
theorem secondAcceptanceFaults : Obligations.SecondAcceptanceFaults := by
  intro s p w v i j r q rest hscript hidle hp hv hi hj hr hq hmeet hwrite
  have hranges : (s.blk.accept w).pendingRanges = operandRanges i s.blk :=
    (Block.pendingRanges_of_pending rfl hi).trans (operandRanges_accept i s.blk w)
  have hconflict : rangesConflict (s.blk.accept w).pendingRanges p.pendingRanges = true := by
    rw [hranges, Block.pendingRanges_of_pending hv hj]
    exact rangesConflict_of_mem hr hq hmeet hwrite
  calc step s = ({ s with script := rest } : State).writeAt (s.blk.regBase + 0) 4 w :=
        step_of_script_cons hscript
    _ = ({ s with script := rest } : State).hostWrite (some .cmd) w :=
        State.writeAt_offset { s with script := rest } (by decide) (by decide) w
    _ = ({ s with script := rest } : State).writeCmd w :=
        State.hostWrite_cmd_idle (s := { s with script := rest }) hidle w
    _ = .fault .instanceConflict := State.writeCmd_of_conflict (s := { s with script := rest }) hp hconflict

/-! ### A `WAIT` ends -/

/-- A `WAIT` on the idle instance in focus reads `STATUS` and goes on (R83). -/
theorem step_waitIdle_idle {s : State} {rest : List Move} (hscript : s.script = .waitIdle s.blk.regBase :: rest)
    (hidle : s.blk.busy = false) :
    step s = .next { s with script := rest, rdata := s.blk.status } := by
  have hread := State.hostRead_idle (s := { s with script := rest }) hidle (some .status)
  rw [step_of_script_cons hscript]
  simp [State.move, State.waitAt, hidle, hread, Block.readRegister]

/-- A `WAIT` on the busy instance in focus lets its block step, and stays the next move (R382, log 4). -/
theorem step_waitIdle_busy {s : State} {rest : List Move} (hscript : s.script = .waitIdle s.blk.regBase :: rest)
    (hbusy : s.blk.busy = true) : step s = s.blockStep := by
  rw [step_of_script_cons hscript]
  simp [State.move, State.waitAt, hbusy, ← hscript]

theorem statusCompleted_not_busy (code : ErrCode) : statusBusy (statusCompleted code) = false := by
  cases code <;> rfl

/-- A pending command, legal or not, completes in its block's step, and leaves the schedule, the window and the
latched word's register as they were (R140 to R143, R331). -/
theorem State.blockStep_completes {s : State} (hp : s.blk.pending ≠ none) :
    ∃ (u : State) (code : ErrCode), s.blockStep = .next (u.finish code) ∧
      u.blk.regBase = s.blk.regBase ∧ u.blk.cmd = s.blk.cmd ∧ u.peers = s.peers ∧ u.script = s.script := by
  rcases s.blockStep_cases with ⟨hnone, -⟩ | ⟨w, e, -, -, hs⟩ | ⟨w, i, -, -, hs⟩
  · exact absurd hnone hp
  · exact ⟨s, .illegalCmd, hs, rfl, rfl, rfl, rfl⟩
  · obtain ⟨u, code, hu, hrun⟩ := s.runCommand_finishes i
    have hkeeps : s.KeepsRegisters i u := by
      rcases hu with rfl | rfl
      · exact .refl i u
      · exact operationOf_keepsRegisters i s
    obtain ⟨hbase, hcmd, -, -, -, -, -, -, -, -, -, hpeers, -, -, hscript, -⟩ := hkeeps
    exact ⟨u, code, by rw [hs, exec_eq_runCommand, hrun], hbase, hcmd, hpeers, hscript⟩

/-- Settles O53: while busy the block's step completes the command, and the `WAIT` then finds it idle. -/
theorem waitEnds : Obligations.WaitEnds := by
  intro s rest hlegal hscript
  refine ⟨step_waitIdle_idle hscript, fun hbusy => ?_⟩
  obtain ⟨u, code, hs, hbase, -, -, hu⟩ :=
    State.blockStep_completes (Block.pending_ne_none_of_busy hlegal hbusy)
  have hidle : (u.finish code).blk.busy = false := by simp [Block.busy, statusCompleted_not_busy]
  have hkept : (u.finish code).script = s.script := by simp [hu]
  have hnext : (u.finish code).script = .waitIdle (u.finish code).blk.regBase :: rest := by
    simpa [hbase] using hkept.trans hscript
  exact ⟨u.finish code, (step_waitIdle_busy hscript hbusy).trans hs, hkept, hidle,
    step_waitIdle_idle hnext hidle⟩

end Sys2Proof.Machine
end

section
/-! PROOFS. The command words (spec/30_encoding.md R101 to R104): the decoder and the encoder agree on every word,
and the table's bits of a word are read as the word. -/

namespace Sys2Proof

/-! ### The decoder and the encoder agree -/

theorem decode_encode (i : Instr) : decode (encode i) = .ok i := by
  cases i <;> rfl

/-- R106: the words of `KEYGEN` differ from 0x05 in `RAND`, bit 8, and `GAME`, bit 9, alone. -/
theorem getLsbD_encode_keygenRow :
    ∀ (rand game : Bool), ∀ k < 32,
      (encode (keygenRow rand game)).getLsbD k =
        if k = 8 then rand else if k = 9 then game else (0x05#32).getLsbD k := by
  decide

/-- The mask of the `KEYGEN` rows leaves out `RAND` and `GAME` alone. -/
theorem getLsbD_keygenMask : ∀ k < 32, k ≠ 8 → k ≠ 9 → (0xFFFFFCFF#32).getLsbD k = true := by
  decide

/-- R103, the masked rows: a word that matches them is the word of the command its flags select. -/
theorem eq_encode_keygenRow {w : Word} (h : w &&& 0xFFFFFCFF#32 = 0x05#32) :
    w = encode (keygenRow (w.getLsbD 8) (w.getLsbD 9)) := by
  refine BitVec.eq_of_getLsbD_eq fun k hk => ?_
  rw [getLsbD_encode_keygenRow _ _ k hk]
  split_ifs with h8 h9
  · rw [h8]
  · rw [h9]
  · rw [← h, BitVec.getLsbD_and, getLsbD_keygenMask k hk h8 h9, Bool.and_true]

/-- R103: a word that selects a command is that command's word. -/
theorem eq_encode_of_decode {w : Word} {i : Instr} (h : decode w = .ok i) : w = encode i := by
  unfold decode at h
  split_ifs at h with h0 h1 h2 h3 h4 hkeygen h6 h7 h8
  all_goals obtain rfl := Except.ok.inj h
  · exact h0
  · exact h1
  · exact h2
  · exact h3
  · exact h4
  · exact eq_encode_keygenRow hkeygen
  · exact h6
  · exact h7
  · exact h8

theorem decode_eq_ok_iff (w : Word) (i : Instr) : decode w = .ok i ↔ w = encode i :=
  ⟨eq_encode_of_decode, fun h => h ▸ decode_encode i⟩

/-- Settles O2: the decoder and the encoder agree, and the encoder writes the words of the opcode table. -/
theorem wordSelectsAtMostOneRow : Obligations.WordSelectsAtMostOneRow :=
  ⟨decode_eq_ok_iff, by decide⟩

/-! ### The bits of the opcode table -/

/-- The byte of a number from bit `j` on, put back in its place, holds the number's bits `j` to `j + 7`. -/
theorem getLsbD_byte_shiftLeft (n j : Nat) {k : Nat} (hk : k < 32) :
    ((BitVec.ofNat 8 (n / 2 ^ j)).setWidth 32 <<< j).getLsbD k =
      (decide (j ≤ k ∧ k < j + 8) && n.testBit k) := by
  by_cases hj : j ≤ k
  · have hbyte : k - j < 8 ↔ k < j + 8 := by omega
    simp [BitVec.getLsbD_ofNat, Nat.testBit_div_two_pow, hk, hj, Nat.not_lt.mpr hj, hbyte]
  · simp [hj, Nat.lt_of_not_le hj]

/-- R73: four bytes in the window's order stand for the word they were cut from. -/
theorem wordOfBytes_ofNat (n : Nat) :
    wordOfBytes (BitVec.ofNat 8 n) (BitVec.ofNat 8 (n / 2 ^ 8)) (BitVec.ofNat 8 (n / 2 ^ 16))
      (BitVec.ofNat 8 (n / 2 ^ 24)) = BitVec.ofNat 32 n := by
  refine BitVec.eq_of_getLsbD_eq fun k hk => ?_
  have hlow : ((BitVec.ofNat 8 n).setWidth 32).getLsbD k = (decide (k < 8) && n.testBit k) := by
    simp [BitVec.getLsbD_ofNat, hk]
  have hcover : (decide (k < 8) || decide (8 ≤ k ∧ k < 8 + 8) || decide (16 ≤ k ∧ k < 16 + 8) ||
      decide (24 ≤ k ∧ k < 24 + 8)) = true := by
    simp only [Bool.or_eq_true, decide_eq_true_eq]
    omega
  simp only [wordOfBytes, BitVec.getLsbD_or, hlow, getLsbD_byte_shiftLeft n _ hk, ← Bool.and_or_distrib_right]
  rw [hcover, BitVec.getLsbD_ofNat, decide_eq_true hk]

theorem decodeTableWord_toNat (w : Word) : decodeTableWord 32 w.toNat = (decode w).toOption := by
  have hbytes : bytesOfNat 4 (w.toNat % 2 ^ 32) =
      [BitVec.ofNat 8 w.toNat, BitVec.ofNat 8 (w.toNat / 2 ^ 8), BitVec.ofNat 8 (w.toNat / 2 ^ 16),
        BitVec.ofNat 8 (w.toNat / 2 ^ 24)] := by
    rw [Nat.mod_eq_of_lt w.isLt]
    simp [bytesOfNat, Nat.div_div_eq_div_mul]
  rw [decodeTableWord, hbytes, decodeBytes, wordOfBytes_ofNat, BitVec.ofNat_toNat, BitVec.setWidth_eq]
  cases decode w <;> rfl

/-- Settles O1: the encoded word decodes to its command, and the table's 32 bits of it are the word. -/
theorem encodedCommandsDecode : Obligations.EncodedCommandsDecode := by
  intro i _
  refine ⟨decode_encode i, ?_⟩
  rw [decodeTableWord_toNat, decode_encode]
  rfl

/-- Settles O4: the legal words are those of their commands (O1), and the others select no row. -/
theorem writtenOutWordsDecode : Obligations.WrittenOutWordsDecode := by
  have hlegal (i : Instr) : decodeTableWord 32 (encode i).toNat = some i :=
    (encodedCommandsDecode i (by cases i <;> rfl)).2
  exact ⟨hlegal .nop, hlegal .crc32, hlegal .fill, hlegal .keygenAdkR, hlegal .keygenDng, hlegal .obf, hlegal .lzd,
    hlegal .lze, by decide, by decide, by decide⟩

end Sys2Proof
end

section
/-! PROOFS. The memory's frame of every command (spec/40_command.md R147): only its written ranges change. -/

namespace Sys2Proof.Machine

/-- R107, third column: the range a command writes. -/
theorem written_operandRange {i : Instr} {b : Block} {r : OperandRange} (hr : r ∈ operandRanges i b)
    (hw : r.written = true) :
    (i ∈ [.fill, .lzd, .lze] ∧ r = b.destRange) ∨
    (i ∈ [.keygenAdk, .keygenAdkR, .keygenDng, .keygenDngR] ∧ r = b.keyOutRange) ∨
    (i = .obf ∧ r = b.dataRange) := by
  have h : r ∈ (operandRanges i b).filter (·.written) := List.mem_filter.mpr ⟨hr, hw⟩
  cases i with
  | nop | crc32 | seed | next => cases h
  | fill | lzd | lze => exact .inl ⟨by decide, List.mem_singleton.mp h⟩
  | keygenAdk | keygenAdkR | keygenDng | keygenDngR => exact .inr (.inl ⟨by decide, List.mem_singleton.mp h⟩)
  | obf => exact .inr (.inr ⟨rfl, List.mem_singleton.mp h⟩)

theorem State.StoresInto.read_outside {s t : State} {r : OperandRange} (h : s.StoresInto t r) {x : Nat}
    (hx : OutsideBytes r.addr r.len x) : t.mem.read x = s.mem.read x := by
  obtain ⟨-, bytes, hlen, hmem⟩ := h
  rw [hmem, Memory.read_writeBytes_other _ _ _ _ (by omega)]

/-- R145, R147: a command leaves memory as it was, or stores into one of its written ranges. -/
theorem State.runCommand_stores (i : Instr) (s : State) :
    (s.runCommand i (operationOf i)).mem = s.mem ∨
      ∃ r ∈ operandRanges i s.blk, s.StoresInto (s.runCommand i (operationOf i)) r := by
  rcases s.runCommand_cases i (operationOf i) with ⟨code, -, hs⟩ | ⟨hok, hs⟩
  · exact .inl (by simp [hs])
  · obtain ⟨-, hcap⟩ := checks_of_operandError_eq_none hok
    simpa [State.StoresInto, hs] using operationOf_stores i s hcap

/-- Settles O19: what a command stores lies in its written range, and every other byte reads as before. -/
theorem commandsKeepOtherMemory : Obligations.CommandsKeepOtherMemory := by
  intro i s t x h hdest hkey hdata
  obtain rfl : s.runCommand i (operationOf i) = t := by simpa [exec_eq_runCommand] using h
  rcases s.runCommand_stores i with hsame | ⟨r, hr, hstores⟩
  · rw [hsame]
  · rcases written_operandRange hr hstores.1 with ⟨hi, rfl⟩ | ⟨hi, rfl⟩ | ⟨hi, rfl⟩
    · exact hstores.read_outside (hdest hi)
    · exact hstores.read_outside (hkey hi)
    · exact hstores.read_outside (hdata hi)

end Sys2Proof.Machine
end

section
/-! PROOFS. The archive header (spec/30_encoding.md R120, spec/60_exceptions.md R356; log 20): the fields written
are the fields read. -/

namespace Sys2Proof.Machine

@[simp] theorem length_leBytes (n v : Nat) : (leBytes n v).length = n := by
  induction n generalizing v with
  | zero => rfl
  | succ n ih => simp [leBytes, ih]

/-- R17: the `n` low bytes of a number stand for its remainder by `256 ^ n`. -/
theorem leValue_leBytes (n v : Nat) : leValue (leBytes n v) = v % 256 ^ n := by
  induction n generalizing v with
  | zero => simp [leBytes, leValue, Nat.mod_one]
  | succ n ih =>
    have hbyte : (BitVec.ofNat 8 v).toNat = v % 256 := BitVec.toNat_ofNat v 8
    rw [leBytes, leValue, ih, hbyte, pow_succ', Nat.mod_mul]

/-- A field reads as the word written there (R356). -/
theorem headerField_leBytes (w : Word) (rest : List Byte) : headerField (leBytes 4 w.toNat ++ rest) 0 = w := by
  have htake : (leBytes 4 w.toNat ++ rest).take 4 = leBytes 4 w.toNat := List.take_left' (length_leBytes 4 _)
  have hvalue : leValue (leBytes 4 w.toNat) = w.toNat := (leValue_leBytes 4 _).trans (Nat.mod_eq_of_lt w.isLt)
  rw [headerField, List.drop_zero, htake, hvalue, BitVec.ofNat_toNat, BitVec.setWidth_eq]

/-- A field after the first is one of what follows the first. -/
theorem headerField_leBytes_of_le {offset : Nat} (h : 4 ≤ offset) (v : Nat) (rest : List Byte) :
    headerField (leBytes 4 v ++ rest) offset = headerField rest (offset - 4) := by
  simp [headerField, List.drop_append, List.drop_eq_nil_of_le, h]

/-- The five fields at their offsets (R120), whatever their values. -/
def headerAt (a : List Byte) : ArchiveHeader :=
  { magic := headerField a 0, tag := headerField a 4, payloadCrc := headerField a 8
    keyCrc := headerField a 12, size := headerField a 16 }

/-- R350, steps 1 and 2: what reading a header checks. -/
theorem parseHeader_eq (a : List Byte) :
    parseHeader a =
      if a.length < headerLen then none
      else if (headerAt a).magic = headerMagic then (gameOfTag (headerAt a).tag).map ((headerAt a), ·)
      else none := rfl

theorem headerAt_emitHeader_append (h : ArchiveHeader) (body : List Byte) :
    headerAt (emitHeader h ++ body) = h := by
  simp [headerAt, emitHeader, headerField_leBytes, headerField_leBytes_of_le]

@[simp] theorem length_emitHeader (h : ArchiveHeader) : (emitHeader h).length = headerLen := by
  simp [emitHeader, headerLen]

/-- R355: a game's tag selects the game. -/
theorem gameOfTag_gameTag (g : Game) : gameOfTag (gameTag g) = some g := by
  cases g <;> rfl

/-- Settles O38: the fields read are the fields written, and the tag's game is the one it stands for. -/
theorem headerRoundTrip : Obligations.HeaderRoundTrip := by
  intro h g body hmagic htag
  have hmagic : h.magic = headerMagic := hmagic
  have hlen : ¬ (emitHeader h ++ body).length < headerLen := by simp
  refine ⟨length_emitHeader h, ?_⟩
  rw [parseHeader_eq, if_neg hlen, headerAt_emitHeader_append, if_pos hmagic, htag, gameOfTag_gameTag,
    Option.map_some]

end Sys2Proof.Machine
end

section
/-! PROOFS. The command interface (spec/40_command.md): the operand checks and the errors they raise, which command
a step runs and that it completes, `NOP`, and the host's accesses to a busy instance. -/

namespace Sys2Proof.Machine

/-! ### The code recorded in `STATUS` -/

/-- The codes of R330, each at the place of its number. -/
def ErrCode.inOrder : List ErrCode :=
  [.none, .illegalCmd, .range, .overlap, .capacity, .sizeUnder, .sizeOver]

theorem ErrCode.inOrder_toByte (code : ErrCode) : ErrCode.inOrder[code.toByte.toNat]? = some code := by
  cases code <;> rfl

theorem ErrCode.toByte_injective : Function.Injective ErrCode.toByte := by
  intro code other h
  exact Option.some.inj (by rw [← code.inOrder_toByte, h, other.inOrder_toByte])

@[simp] theorem statusErrCode_statusFailure (code : ErrCode) : statusErrCode (statusFailure code) = code.toByte := by
  cases code <;> rfl

@[simp] theorem statusErrCode_statusCompleted (code : ErrCode) :
    statusErrCode (statusCompleted code) = code.toByte := by
  cases code <;> rfl

@[simp] theorem statusDone_statusCompleted (code : ErrCode) : statusDone (statusCompleted code) = true := by
  cases code <;> rfl

@[simp] theorem State.failed_blk_status (s : State) (code : ErrCode) :
    (s.failed code).blk.status = statusFailure code := rfl

/-- R145, R333: an error completion is the change that R145 allows. -/
theorem State.raiseError_eq_failed (s : State) (code : ErrCode) : s.raiseError code = s.failed code := rfl

/-! ### The operand checks -/

/-- R144, first check: every range of the command is valid. -/
abbrev RangesValid (i : Instr) (b : Block) (memSize : Nat) : Prop :=
  ∀ r ∈ operandRanges i b, RangeOk r.addr r.len memSize

/-- R144, second check: no pair of R107 overlaps. -/
abbrev PairsApart (i : Instr) (b : Block) : Prop :=
  ∀ p ∈ overlapPairs i b, RangesApart p.1.addr p.1.len p.2.addr p.2.len

/-- R144, third check: the destination of `LZE` holds its worst case (R305). -/
abbrev CapacityFits (i : Instr) (b : Block) : Prop :=
  i = .lze → b.srcLen.toNat + (b.srcLen.toNat + 7) / 8 ≤ b.dstLen.toNat

theorem any_invalid_iff (i : Instr) (b : Block) (memSize : Nat) :
    (operandRanges i b).any (fun r => !r.valid memSize) = true ↔ ¬ RangesValid i b memSize := by
  simp only [List.any_eq_true, Bool.not_eq_true', ← Bool.not_eq_true, OperandRange.valid_iff, RangesValid,
    not_forall, exists_prop]

theorem any_overlaps_iff (i : Instr) (b : Block) :
    (overlapPairs i b).any (fun p => p.1.overlaps p.2) = true ↔ ¬ PairsApart i b := by
  simp only [List.any_eq_true, OperandRange.overlaps_iff, PairsApart, not_forall, exists_prop]

theorem capacityMissing_iff (i : Instr) (b : Block) : capacityMissing i b = true ↔ ¬ CapacityFits i b := by
  cases i with
  | lze =>
    simp only [capacityMissing, decide_eq_true_eq, CapacityFits, forall_const, Nat.not_le]
    rfl
  | _ => simp [capacityMissing, CapacityFits]

/-- R144 in the spec's words: the first of the three checks that fails gives the code. -/
theorem operandError_eq (i : Instr) (b : Block) (memSize : Nat) :
    operandError i b memSize =
      if ¬ RangesValid i b memSize then some .range
      else if ¬ PairsApart i b then some .overlap
      else if ¬ CapacityFits i b then some .capacity
      else none := by
  simp only [operandError, any_invalid_iff, any_overlaps_iff, capacityMissing_iff]

/-- R142, R266, R268: only `LZD` ends with a code, which is that of one of its two size errors. -/
theorem operationOf_code (i : Instr) (s : State) :
    (operationOf i s).2 = .none ∨
      i = .lzd ∧ ((operationOf i s).2 = .sizeUnder ∨ (operationOf i s).2 = .sizeOver) := by
  cases i with
  | lzd =>
    have hcode (input : List Byte) (exp : Nat) :
        (lzssDecode input exp).code = .none ∨ (lzssDecode input exp).code = .sizeUnder ∨
          (lzssDecode input exp).code = .sizeOver := by
      unfold lzssDecode
      split
      · exact .inr (.inr rfl)
      · dsimp only
        split
        · exact .inr (.inl rfl)
        · exact .inl rfl
    exact (hcode _ _).imp_right fun h => ⟨rfl, h⟩
  | _ => exact .inl rfl

/-- Settles O23: `operandError_eq` branch by branch, and the codes an operation can end with. -/
theorem operandChecksInOrder : Obligations.OperandChecksInOrder := by
  intro i s rangesOk apart fits
  refine ⟨fun hr => ?_, fun hr ha => ?_, fun hr ha hf => ?_, fun hr ha hf => ?_⟩
  · have herr : operandError i s.blk s.memSize = some .range := by
      rw [operandError_eq, if_pos hr]
    exact exec_of_error herr
  · have herr : operandError i s.blk s.memSize = some .overlap := by
      rw [operandError_eq, if_neg (not_not.mpr hr), if_pos ha]
    exact exec_of_error herr
  · have herr : operandError i s.blk s.memSize = some .capacity := by
      rw [operandError_eq, if_neg (not_not.mpr hr), if_neg (not_not.mpr ha), if_pos hf]
    exact exec_of_error herr
  · have hok : operandError i s.blk s.memSize = none := by
      rw [operandError_eq, if_neg (not_not.mpr hr), if_neg (not_not.mpr ha), if_neg (not_not.mpr hf)]
    refine ⟨_, exec_of_ok hok, ?_⟩
    rw [State.finish_blk_status]
    rcases operationOf_code i s with hc | ⟨hi, hc | hc⟩
    · exact .inl (by rw [hc]; rfl)
    · exact .inr ⟨hi, .inl (by rw [hc]; rfl)⟩
    · exact .inr ⟨hi, .inr (by rw [hc]; rfl)⟩

/-! ### An error of the decoder or the checks -/

/-- A command either raises before it changes anything, or completes with success or a size error. -/
theorem exec_fails_or_completes (i : Instr) (s : State) :
    (∃ code, exec i s = .next (s.failed code)) ∨
      ∃ u : State, ∃ code ∈ [ErrCode.none, .sizeUnder, .sizeOver], exec i s = .next (u.finish code) := by
  cases herr : operandError i s.blk s.memSize with
  | some code => exact .inl ⟨code, exec_of_error herr⟩
  | none =>
    have hcode : (operationOf i s).2 ∈ [ErrCode.none, .sizeUnder, .sizeOver] := by
      rcases operationOf_code i s with hc | ⟨-, hc | hc⟩ <;> simp [hc]
    exact .inr ⟨_, _, hcode, exec_of_ok herr⟩

/-- R145: a code of the decoder or the checks in `STATUS` shows that the command changed nothing else. -/
theorem eq_failed_of_exec {i : Instr} {s t : State} {code : ErrCode}
    (hcode : code ∉ [ErrCode.none, .sizeUnder, .sizeOver]) (h : exec i s = .next t)
    (hstatus : t.blk.status = statusFailure code) : t = s.failed code := by
  have hrecorded {other : ErrCode} (h : statusErrCode t.blk.status = other.toByte) : other = code :=
    ErrCode.toByte_injective (by rw [← h, hstatus, statusErrCode_statusFailure])
  rcases exec_fails_or_completes i s with ⟨other, hs⟩ | ⟨u, other, hother, hs⟩
  · obtain rfl : s.failed other = t := by simpa [hs] using h
    obtain rfl : other = code := hrecorded (by simp)
    rfl
  · obtain rfl : u.finish other = t := by simpa [hs] using h
    obtain rfl : other = code := hrecorded (by simp)
    exact absurd hother hcode

/-- Settles O22: no operation ends with one of these codes, so the checks raised it, or the decoder did. -/
theorem checksRaiseBeforeAnyWrite : Obligations.ChecksRaiseBeforeAnyWrite := by
  constructor
  · intro i s t code hcode h hstatus
    have hcheck : code ∉ [ErrCode.none, .sizeUnder, .sizeOver] := by
      simp only [List.mem_cons, List.not_mem_nil, or_false] at hcode
      rcases hcode with rfl | rfl | rfl <;> decide
    exact eq_failed_of_exec hcheck h hstatus
  · intro s t w h hstatus
    unfold State.execute at h
    split at h
    · exact eq_failed_of_exec (by decide) h hstatus
    · cases h
      rfl

/-! ### Which command a step runs -/

/-- The block of an instance with a legal word latched runs its command (R140, R143). -/
theorem State.blockStep_of_decode {s : State} {w : Word} {i : Instr} (hp : s.blk.pending = some w)
    (hd : decode w = .ok i) : s.blockStep = exec i s := by
  simp [State.blockStep, State.execute, hp, hd]

/-- With no move left, the block of a pending instance steps, once it is in focus (log 4, log 13). -/
theorem step_idle_of_focus {s t : State} (hscript : s.script = []) (hf : s.focus Block.isPending = some t) :
    step s = t.blockStep := by
  simp [step, State.advance, State.idleStep, hscript, hf]

/-- The schedule lets the block of the instance at `base` step, once it is in focus (log 3, log 13). -/
theorem step_blockMoves_of_focus {s t : State} {base : Nat} {rest : List Move}
    (hscript : s.script = .blockMoves base :: rest)
    (hf : ({ s with script := rest } : State).focus (Block.isAt base) = some t) : step s = t.blockStep := by
  rw [step_of_script_cons hscript]
  simp [State.move, State.blockStepAt, hf]

theorem Block.isPending_iff (b : Block) : b.isPending = true ↔ b.pending ≠ none :=
  Option.isSome_iff_ne_none

/-- Settles O6: in each of the three schedules the instance in focus is the one whose block steps. -/
theorem stepRunsTheDecodedCommand : Obligations.StepRunsTheDecodedCommand := by
  intro s w i _ hp hd
  have hpending : s.blk.isPending = true := s.blk.isPending_iff.mpr (by simp [hp])
  refine ⟨fun hscript => ?_, fun rest hscript => ?_, fun rest hscript hbusy => ?_⟩
  · exact (step_idle_of_focus hscript (State.focus_self hpending)).trans (State.blockStep_of_decode hp hd)
  · have hfocus := State.focus_self (s := { s with script := rest }) s.blk.isAt_self
    exact (step_blockMoves_of_focus hscript hfocus).trans
      (State.blockStep_of_decode (s := { s with script := rest }) hp hd)
  · exact (step_waitIdle_busy hscript hbusy).trans (State.blockStep_of_decode hp hd)

/-- Settles O7: the change of focus finds the instance and permutes the others, and its block steps. -/
theorem stepRunsTheCommandOfAnyInstance : Obligations.StepRunsTheCommandOfAnyInstance := by
  intro s t base rest w i hscript hf hp hd
  obtain ⟨hpick, hperm, heq⟩ := State.focus_spec hf
  refine ⟨(step_blockMoves_of_focus hscript hf).trans (State.blockStep_of_decode hp hd),
    Block.regBase_eq_of_isAt hpick, hperm, ?_, ?_⟩
  · rw [heq]
  · rw [heq]

/-! ### A pending command completes -/

/-- Where some instance has a command pending, one comes into focus: the one in focus already if it has one
(log 13). -/
theorem State.exists_focus_pending {s : State} (h : ∃ b ∈ s.instances, b.pending ≠ none) :
    ∃ t, s.focus Block.isPending = some t ∧ (s.blk.pending ≠ none → t = s) := by
  cases hf : s.focus Block.isPending with
  | none =>
    obtain ⟨b, hb, hp⟩ := h
    exact absurd (b.isPending_iff.mpr hp) (Bool.eq_false_iff.mp (State.focus_eq_none.mp hf b hb))
  | some t =>
    refine ⟨t, rfl, fun hp => ?_⟩
    exact Option.some.inj (hf.symm.trans (State.focus_self (s.blk.isPending_iff.mpr hp)))

/-- R35 of a `STATUS` that a completion writes. -/
theorem statusCompleted_err_iff (code : ErrCode) :
    statusErr (statusCompleted code) = true ↔ statusErrCode (statusCompleted code) ≠ 0 := by
  obtain ⟨herr, -⟩ := idleStatuses_fieldsAgree (statusCompleted_mem_idleStatuses code)
  exact herr

/-- Settles O52: a pending instance comes into focus, and its block's step ends in a completion. -/
theorem pendingCommandCompletes : Obligations.PendingCommandCompletes := by
  intro s hscript hsome
  obtain ⟨f, hf, hself⟩ := State.exists_focus_pending hsome
  obtain ⟨hpick, hperm, -⟩ := State.focus_spec hf
  have hp : f.blk.pending ≠ none := f.blk.isPending_iff.mp hpick
  obtain ⟨u, code, hs, hbase, hcmd, hpeers, -⟩ := State.blockStep_completes hp
  have hothers : (u.finish code).peers = f.peers := (u.finish_peers code).trans hpeers
  refine ⟨f.blk, u.finish code, hp, fun h => by rw [hself h], hothers ▸ hperm,
    (step_idle_of_focus hscript hf).trans hs, u.finish_blk_pending code, ?_, ?_, ?_,
    (u.finish_blk_cmd code).trans hcmd, (u.finish_blk_regBase code).trans hbase⟩ <;>
    rw [State.finish_blk_status]
  · exact statusCompleted_not_busy code
  · exact statusDone_statusCompleted code
  · exact statusCompleted_err_iff code

/-! ### `NOP` -/

/-- R102: `OP = 0x00` is `NOP`'s alone. -/
theorem eq_nop_of_op_zero {i : Instr} (h : (encode i).toNat % 2 ^ 8 = 0) : i = .nop := by
  cases i with
  | nop => rfl
  | _ => exact absurd h (by decide)

/-- R104, R148: with `OP = 0x00`, only the word 0 is a command's. -/
theorem decode_error_of_op_zero {w : Word} (hop : w.toNat % 2 ^ 8 = 0) (hne : w ≠ 0) :
    ∃ e, decode w = .error e := by
  cases hd : decode w with
  | error e => exact ⟨e, rfl⟩
  | ok i =>
    obtain rfl : w = encode i := eq_encode_of_decode hd
    obtain rfl : i = .nop := eq_nop_of_op_zero hop
    exact absurd rfl hne

/-- Settles O8: `NOP` has no operand to check and no operation, and its worked example is played. -/
theorem nopChangesStatusOnly : Obligations.NopChangesStatusOnly := by
  refine ⟨decode_encode .nop, fun s => ?_, fun w => decode_error_of_op_zero, ⟨rfl, rfl⟩, ?_⟩
  · have hok : operandError .nop s.blk s.memSize = none := rfl
    exact exec_of_ok hok
  · exact ⟨_, rfl, rfl⟩

/-! ### Host accesses to a busy instance -/

theorem State.hostWrite_busy {s : State} (hbusy : s.blk.busy = true) (r : Option RegName) (v : Word) :
    s.hostWrite r v = .next s := by
  simp [State.hostWrite, hbusy]

/-- Settles O40: the write reaches the register file, which ignores it while busy. -/
theorem writesWhileBusyIgnored : Obligations.WritesWhileBusyIgnored := by
  intro s offset v hlt hal hbusy
  rw [s.writeAt_offset hlt hal]
  exact State.hostWrite_busy hbusy _ v

/-- A register that R149 does not leave open reads as stored while busy. -/
theorem State.hostRead_specified {s : State} {r : Option RegName} (h : unspecifiedRead s.draws r = none) :
    s.hostRead r = { s with rdata := s.blk.readRegister r } := by
  simp [State.hostRead, h]

/-- A register that R149 leaves open reads as a free value while busy (log 6, log 7). -/
theorem State.hostRead_unspecified {s : State} {r : Option RegName} {v : Word} (hbusy : s.blk.busy = true)
    (h : unspecifiedRead s.draws r = some v) : s.hostRead r = { s with rdata := v, draws := s.draws + 1 } := by
  simp [State.hostRead, hbusy, h]

/-- A host read at an aligned offset of the window in focus reads the register there. -/
theorem step_readReg {s : State} {offset : Nat} {rest : List Move}
    (hscript : s.script = .readReg (s.blk.regBase + offset) 4 :: rest) (hlt : offset < 0x40)
    (hal : offset % 4 = 0) :
    step s = .next (({ s with script := rest } : State).hostRead (registerAt offset)) :=
  (step_of_script_cons hscript).trans (State.readAt_offset { s with script := rest } hlt hal)

theorem step_readReg_specified {s : State} {offset : Nat} {rest : List Move}
    (hscript : s.script = .readReg (s.blk.regBase + offset) 4 :: rest)
    (hoffset : offset < 0x40 ∧ offset % 4 = 0) (h : unspecifiedRead s.draws (registerAt offset) = none) :
    step s = .next { s with script := rest, rdata := s.blk.readRegister (registerAt offset) } :=
  (step_readReg hscript hoffset.1 hoffset.2).trans
    (congrArg _ (State.hostRead_specified (s := { s with script := rest }) h))

theorem step_readReg_unspecified {s : State} {offset : Nat} {rest : List Move} {v : Word}
    (hscript : s.script = .readReg (s.blk.regBase + offset) 4 :: rest) (hbusy : s.blk.busy = true)
    (hoffset : offset < 0x40 ∧ offset % 4 = 0) (h : unspecifiedRead s.draws (registerAt offset) = some v) :
    step s = .next { s with script := rest, rdata := v, draws := s.draws + 1 } :=
  (step_readReg hscript hoffset.1 hoffset.2).trans
    (congrArg _ (State.hostRead_unspecified (s := { s with script := rest }) hbusy h))

/-- A legal instance with a command pending is busy, its `STATUS` the accepted word (R35, R46). -/
theorem Block.status_of_pending {b : Block} {w : Word} (h : b.legal = true) (hp : b.pending = some w) :
    b.status = statusAccepted := by
  obtain ⟨hstatus, -, -⟩ := b.legal_iff.mp h
  rcases b.statusLegal_iff.mp hstatus with ⟨-, hs⟩ | ⟨hnone, -⟩
  · exact hs
  · cases hp.symm.trans hnone

/-- R44, I3: bit 31 is masked out of a free read of `PRNG_STATE`. -/
theorem getLsbD_seedMask (v : Word) : (v &&& 0x7FFFFFFF#32).getLsbD 31 = false := by
  simp

/-- Settles O44: R149 leaves three registers open, and every other reads as stored. -/
theorem readsWhileBusy : Obligations.ReadsWhileBusy := by
  intro s w rest hlegal hp reads opens
  have hstatus : s.blk.status = statusAccepted := Block.status_of_pending hlegal hp
  have hbusy : s.blk.busy = true := by
    rw [Block.busy, hstatus]
    rfl
  have hreads {offset : Nat} (hoffset : offset < 0x40 ∧ offset % 4 = 0)
      (hnone : unspecifiedRead s.draws (registerAt offset) = none) :
      reads offset (s.blk.readRegister (registerAt offset)) :=
    fun hscript => step_readReg_specified hscript hoffset hnone
  have hopens {offset : Nat} {ok : Word → Prop} {v : Word} (hok : ok v)
      (hoffset : offset < 0x40 ∧ offset % 4 = 0)
      (hsome : unspecifiedRead s.draws (registerAt offset) = some v) : opens offset ok :=
    fun hscript => ⟨v, hok, step_readReg_unspecified hscript hbusy hoffset hsome⟩
  have hreadsStatus : reads 0x04 statusAccepted := by
    rw [← hstatus]
    exact hreads (by decide) rfl
  exact ⟨hreads (by decide) rfl, hreadsStatus, hreads (by decide) rfl, hreads (by decide) rfl,
    hreads (by decide) rfl, hreads (by decide) rfl, hreads (by decide) rfl, hreads (by decide) rfl,
    hopens trivial (by decide) rfl, hopens trivial (by decide) rfl,
    hopens (getLsbD_seedMask _) (by decide) rfl⟩

end Sys2Proof.Machine
end

section
/-! PROOFS. The CRC-32 engine (spec/41_crc32.md). Bit steps are linear over XOR, so a byte enters the register as
well before as after the steps on the others; then the slice kernel is four byte steps, the fast path the bitwise
function, and `CRC32` what R166 says. -/

namespace Sys2Proof.Machine

/-! ### Bit steps are linear -/

/-- A bit step in one expression: the bit shifted out selects the polynomial. -/
theorem crcBit_eq (c : Word) : crcBit c = (c >>> 1) ^^^ (if c.getLsbD 0 then crcPoly else 0) := by
  unfold crcBit
  split
  · rfl
  · exact BitVec.xor_zero.symm

theorem crcBit_xor (a b : Word) : crcBit (a ^^^ b) = crcBit a ^^^ crcBit b := by
  have hpoly (p q : Bool) : (if (p ^^ q) = true then crcPoly else 0) =
      (if p = true then crcPoly else 0) ^^^ (if q = true then crcPoly else 0) := by
    cases p <;> cases q <;> rfl
  rw [crcBit_eq, crcBit_eq a, crcBit_eq b, BitVec.ushiftRight_xor_distrib, BitVec.getLsbD_xor, hpoly]
  ac_rfl

theorem crcBits_xor (n : Nat) (a b : Word) : crcBits n (a ^^^ b) = crcBits n a ^^^ crcBits n b := by
  induction n generalizing a b with
  | zero => rfl
  | succ n ih => rw [crcBits, crcBit_xor, ih, crcBits, crcBits]

/-- Bits that are 0 only shift out: none of them selects the polynomial. -/
theorem crcBits_of_low_zero {n : Nat} {c : Word} (h : ∀ i < n, c.getLsbD i = false) : crcBits n c = c >>> n := by
  induction n generalizing c with
  | zero => exact (BitVec.ushiftRight_zero c).symm
  | succ n ih =>
    have hbit : crcBit c = c >>> 1 := if_neg (by simp only [h 0 n.succ_pos, Bool.false_eq_true, not_false_eq_true])
    have hlow : ∀ i < n, (c >>> 1).getLsbD i = false := fun i hi => by
      rw [BitVec.getLsbD_ushiftRight]
      exact h (1 + i) (by omega)
    rw [crcBits, hbit, ih hlow, ← BitVec.shiftRight_add, Nat.add_comm 1 n]

/-- Eight steps on a word moved up over a zero byte move it back down. -/
theorem crcBits_shiftLeft_byte {c : Word} (h : ∀ i ≥ 24, c.getLsbD i = false) : crcBits 8 (c <<< 8) = c := by
  rw [crcBits_of_low_zero fun i hi => by simp [hi]]
  refine BitVec.eq_of_getLsbD_eq fun k hk => ?_
  by_cases hk24 : k < 24
  · have hlt : 8 + k < 32 := by omega
    simp [hlt, BitVec.getLsbD_eq_getElem hk]
  · have hge : ¬ 8 + k < 32 := by omega
    simp [hge, h k (Nat.not_lt.mp hk24)]

/-! ### Byte steps -/

/-- R161, R162: the table and the shift of a zero-byte step are eight bit steps on the low byte and on the rest. -/
theorem crcZero_eq (c : Word) : crcZero c = crcBits 8 c := by
  have hsplit : zext32 (lowByte c) ^^^ (c >>> 8 <<< 8) = c := by
    refine BitVec.eq_of_getLsbD_eq fun k hk => ?_
    by_cases h : k < 8
    · simp [h, hk]
    · simp [h, hk, Nat.add_sub_cancel' (Nat.not_lt.mp h)]
  have hrest : crcBits 8 (c >>> 8 <<< 8) = c >>> 8 := by
    refine crcBits_shiftLeft_byte fun i hi => ?_
    rw [BitVec.getLsbD_ushiftRight]
    exact BitVec.getLsbD_of_ge _ _ (by omega)
  calc crcZero c = crcBits 8 (zext32 (lowByte c)) ^^^ crcBits 8 (c >>> 8 <<< 8) := by rw [hrest]; rfl
    _ = crcBits 8 c := by rw [← crcBits_xor, hsplit]

theorem crcZero_xor (a b : Word) : crcZero (a ^^^ b) = crcZero a ^^^ crcZero b := by
  simp only [crcZero_eq, crcBits_xor]

/-- R162: a byte step folds the byte in and makes a zero-byte step. -/
theorem crcByte_eq (c : Word) (b : Byte) : crcByte c b = crcZero (c ^^^ zext32 b) :=
  (crcZero_eq _).symm

/-- A byte and bits above it share none. -/
theorem zext32_or_shiftLeft (b : Byte) (c : Word) : zext32 b ||| c <<< 8 = zext32 b ^^^ c <<< 8 := by
  refine BitVec.eq_of_getLsbD_eq fun k _ => ?_
  by_cases h : k < 8
  · simp [h]
  · simp [h, BitVec.getLsbD_of_ge b k (Nat.not_lt.mp h)]

/-- The first byte of a word and the three above it, in a word of their own. -/
theorem wordOfBytes_eq_xor (b0 b1 b2 b3 : Byte) :
    wordOfBytes b0 b1 b2 b3 = zext32 b0 ^^^ (wordOfBytes b1 b2 b3 0 <<< 8) := by
  rw [← zext32_or_shiftLeft]
  simp [wordOfBytes, BitVec.shiftLeft_or_distrib, ← BitVec.shiftLeft_add, BitVec.or_assoc]

theorem getLsbD_wordOfBytes_zero_of_ge (b0 b1 b2 : Byte) {i : Nat} (hi : 24 ≤ i) :
    (wordOfBytes b0 b1 b2 0).getLsbD i = false := by
  simp [wordOfBytes, BitVec.getLsbD_of_ge, show 8 ≤ i by omega, show 8 ≤ i - 8 by omega, show 8 ≤ i - 16 by omega]

/-- A word's bytes above the first wait in the register while the first is stepped over. -/
theorem crcZero_xor_wordOfBytes (r : Word) (b0 b1 b2 b3 : Byte) :
    crcZero (r ^^^ wordOfBytes b0 b1 b2 b3) = crcByte r b0 ^^^ wordOfBytes b1 b2 b3 0 := by
  have hrest : crcZero (wordOfBytes b1 b2 b3 0 <<< 8) = wordOfBytes b1 b2 b3 0 := by
    rw [crcZero_eq]
    exact crcBits_shiftLeft_byte fun i hi => getLsbD_wordOfBytes_zero_of_ge b1 b2 b3 hi
  rw [wordOfBytes_eq_xor, ← BitVec.xor_assoc, crcZero_xor, hrest, crcByte_eq]

/-- R163: the slice kernel is four zero-byte steps, each byte of the register through the table of the steps it has
left. -/
theorem crcSlice_eq (r : Word) : crcSlice r = crcZero (crcZero (crcZero (crcZero r))) := by
  have hstep (c : Word) : crcZero c = crcT0 (lowByte c) ^^^ (c >>> 8) := rfl
  have hlast : crcZero (r >>> 24) = crcT0 (lowByte (r >>> 24)) := by
    rw [hstep, ← BitVec.shiftRight_add, BitVec.ushiftRight_eq_zero (n := 24 + 8) (by decide)]
    exact BitVec.xor_zero
  calc crcSlice r
      = crcT3 (lowByte r) ^^^ (crcT2 (lowByte (r >>> 8)) ^^^ (crcT1 (lowByte (r >>> 16)) ^^^ crcZero (r >>> 24))) := by
        rw [hlast, crcSlice]
        ac_rfl
    _ = crcT3 (lowByte r) ^^^ (crcT2 (lowByte (r >>> 8)) ^^^ crcZero (crcZero (r >>> 16))) := by
        rw [hstep (r >>> 16), crcZero_xor, ← BitVec.shiftRight_add]
        rfl
    _ = crcT3 (lowByte r) ^^^ crcZero (crcZero (crcZero (r >>> 8))) := by
        rw [hstep (r >>> 8), crcZero_xor, crcZero_xor, ← BitVec.shiftRight_add]
        rfl
    _ = crcZero (crcZero (crcZero (crcZero r))) := by
        rw [hstep r, crcZero_xor, crcZero_xor, crcZero_xor]
        rfl

/-- Settles O26: the word's bytes are stepped over one at a time. -/
theorem sliceIsFourByteSteps : Obligations.SliceIsFourByteSteps := by
  intro r b0 b1 b2 b3
  have hnone : wordOfBytes 0 0 0 0 = 0 := rfl
  rw [crcSlice_eq]
  iterate 4 rw [crcZero_xor_wordOfBytes]
  rw [hnone]
  exact BitVec.xor_zero

/-! ### The fast path -/

theorem foldl_take_foldl_drop {α β : Type} (f : β → α → β) (r : β) (n : Nat) (d : List α) :
    (d.drop n).foldl f ((d.take n).foldl f r) = d.foldl f r := by
  rw [← List.foldl_append, List.take_append_drop]

theorem ofNat_leValue_cons (b : Byte) (bs : List Byte) : BitVec.ofNat 8 (leValue (b :: bs)) = b := by
  refine BitVec.eq_of_toNat_eq ?_
  rw [leValue, BitVec.toNat_ofNat]
  omega

theorem leValue_cons_div (b : Byte) (bs : List Byte) : leValue (b :: bs) / 2 ^ 8 = leValue bs := by
  rw [leValue]
  omega

/-- R72: the little-endian word of a list's first four bytes. -/
theorem leadingWord_eq (b0 b1 b2 b3 : Byte) (d : List Byte) :
    leadingWord (b0 :: b1 :: b2 :: b3 :: d) = wordOfBytes b0 b1 b2 b3 := by
  have h1 : leValue [b0, b1, b2, b3] / 2 ^ 8 = leValue [b1, b2, b3] := leValue_cons_div _ _
  have h2 : leValue [b0, b1, b2, b3] / 2 ^ 16 = leValue [b2, b3] := by
    have hnext := leValue_cons_div b1 [b2, b3]
    omega
  have h3 : leValue [b0, b1, b2, b3] / 2 ^ 24 = leValue [b3] := by
    have hnext := leValue_cons_div b2 [b3]
    omega
  calc leadingWord (b0 :: b1 :: b2 :: b3 :: d) = BitVec.ofNat 32 (leValue [b0, b1, b2, b3]) := rfl
    _ = wordOfBytes b0 b1 b2 b3 := by
      rw [← wordOfBytes_ofNat, h1, h2, h3]
      simp only [ofNat_leValue_cons]

/-- R163 on a list: a slice takes its first four bytes. -/
theorem crcSlice_leadingWord (r : Word) {d : List Byte} (h : 4 ≤ d.length) :
    crcSlice (r ^^^ leadingWord d) = (d.take 4).foldl crcByte r := by
  match d, h with
  | b0 :: b1 :: b2 :: b3 :: d, _ => rw [leadingWord_eq, sliceIsFourByteSteps]; rfl

theorem crcTailLoop_eq (r : Word) (d : List Byte) : crcTailLoop r d = d.foldl crcByte r := by
  induction d generalizing r with
  | nil => rfl
  | cons b d ih =>
    have hstep : crcT0 (lowByte (r ^^^ zext32 b)) ^^^ (r >>> 8) = crcByte r b := by
      have hout : zext32 b >>> 8 = 0#32 := BitVec.eq_of_getLsbD_eq fun k _ => by simp
      rw [crcByte_eq, crcZero, BitVec.ushiftRight_xor_distrib, hout, BitVec.xor_zero]
    rw [crcTailLoop, hstep, ih, List.foldl_cons]

/-- The word loop and the byte loop after it, however many turns the word loop may take. -/
theorem crcWordLoop_eq (n : Nat) (r : Word) (d : List Byte) : crcWordLoop n r d = d.foldl crcByte r := by
  induction n generalizing r d with
  | zero => exact crcTailLoop_eq r d
  | succ n ih =>
    rw [crcWordLoop]
    split
    next h => rw [ih, crcSlice_leadingWord r h, foldl_take_foldl_drop]
    next => exact crcTailLoop_eq r d

/-- The rounds over a first word folded in and `k` more words take the bytes of them all. -/
theorem crcRounds_eq (k : Nat) (r : Word) {d : List Byte} (h : 4 + 4 * k ≤ d.length) :
    crcRounds k (r ^^^ leadingWord d) (d.drop 4) = (d.take (4 + 4 * k)).foldl crcByte r := by
  induction k generalizing r d with
  | zero => exact crcSlice_leadingWord r h
  | succ k ih =>
    have hrest : 4 + 4 * k ≤ (d.drop 4).length := by
      rw [List.length_drop]
      omega
    rw [crcRounds, crcSlice_leadingWord r (by omega), ih _ hrest, ← List.foldl_append, ← List.take_add]
    congr 2
    omega

theorem crcBlockLoop_eq (n : Nat) (r : Word) (d : List Byte) : crcBlockLoop n r d = d.foldl crcByte r := by
  induction n generalizing r d with
  | zero => exact crcWordLoop_eq _ r d
  | succ n ih =>
    rw [crcBlockLoop]
    split
    next h => rw [ih, crcRounds_eq 7 r h, foldl_take_foldl_drop]
    next => exact crcWordLoop_eq _ r d

/-- Settles O25: the block loop, and the loops after it, make the byte steps of the bitwise function. -/
theorem crcFastPathAgrees : Obligations.CrcFastPathAgrees := by
  intro d
  rw [crcFast, crc32, crcBlockLoop_eq]

/-! ### `CRC32` -/

/-- R166: the range read is the one operand to check. -/
theorem rangesValid_crc32 (b : Block) (memSize : Nat) :
    RangesValid .crc32 b memSize ↔ RangeOk b.src.toNat b.srcLen.toNat memSize := by
  simp [RangesValid, operandRanges, Block.sourceRange]

/-- Settles O9: R144's checks leave the range alone to fail, and the CRC of no bytes is 0. -/
theorem crc32WritesResult : Obligations.Crc32WritesResult := by
  intro s
  obtain ⟨hrange, -⟩ := operandChecksInOrder .crc32 s
  have hvalid (hr : RangeOk s.blk.src.toNat s.blk.srcLen.toNat s.memSize) :
      exec .crc32 s = .next (s.setResult (crc32 s.sourceBytes)).complete := by
    have hok : operandError .crc32 s.blk s.memSize = none := by
      rw [operandError_eq, if_neg (not_not.mpr ((rangesValid_crc32 _ _).mpr hr))]
      simp [PairsApart, CapacityFits, overlapPairs]
    exact exec_of_ok hok
  refine ⟨hvalid, fun hr => hrange fun h => hr ((rangesValid_crc32 _ _).mp h), fun hempty => ?_⟩
  have hbytes : s.sourceBytes = [] := by
    rw [State.sourceBytes, hempty]
    rfl
  have hzero : crc32 [] = 0 := rfl
  rw [hvalid (.inl (by rw [hempty]; rfl)), hbytes, hzero]
  rfl

end Sys2Proof.Machine
end

section
/-! PROOFS. The generator and the seed conditioner (spec/42_prng.md): a step of the generator multiplies modulo
2^31 - 1, the conditioner leaves 4 to 30 bits set, and what `SEED`, `NEXT` and `FILL` do. -/

namespace Sys2Proof.Machine

/-! ### The generator -/

/-- The fold takes a carry out of bit 31 to bit 0: an exact reduction modulo 2^31 - 1 (R193). -/
theorem foldCarry_modEq (t : Word) : (foldCarry t).toNat ≡ t.toNat [MOD prngMod] := by
  rw [toNat_foldCarry]
  split
  next h => exact (Nat.mod_eq_sub_mod h.le).symm
  next => rfl

/-- A sum of two words below `2 ^ 31` does not wrap (R194), and its fold is exact. -/
theorem foldCarry_add_modEq {a b : Word} (ha : a.toNat ≤ prngMod) (hb : b.toNat ≤ prngMod) :
    (foldCarry (a + b)).toNat ≡ a.toNat + b.toNat [MOD prngMod] := by
  unfold prngMod at ha hb
  have hsum : (a + b).toNat = a.toNat + b.toNat := BitVec.toNat_add_of_lt (by omega)
  exact hsum ▸ foldCarry_modEq (a + b)

/-- `u'` of R192 does not wrap (R194). -/
theorem toNat_upperProduct (w : Word) : ((w >>> 16) * prngMult).toNat = w.toNat / 2 ^ 16 * 16807 := by
  have hhalf : (w >>> 16).toNat = w.toNat / 2 ^ 16 := by simp [Nat.shiftRight_eq_div_pow]
  rw [toNat_mul_prngMult (by omega), hhalf]

/-- `l'` of R192 does not wrap (R194). -/
theorem toNat_lowerProduct (w : Word) : ((w &&& 0xFFFF#32) * prngMult).toNat = w.toNat % 2 ^ 16 * 16807 := by
  rw [toNat_mul_prngMult (by rw [toNat_lowHalf]; omega), toNat_lowHalf]

/-- The low 15 bits of a word, moved to bits 16 to 30. -/
theorem toNat_low15_shiftLeft (u : Word) : ((u &&& 0x7FFF#32) <<< 16).toNat = u.toNat % 2 ^ 15 * 2 ^ 16 := by
  rw [BitVec.toNat_shiftLeft, toNat_low15, Nat.shiftLeft_eq]
  omega

/-- R193: `2 ^ 31` is 1 modulo 2^31 - 1, so the bits of `u'` from bit 15 on may be added at bit 0. -/
theorem splitProduct_modEq (l u : Nat) : l + u % 2 ^ 15 * 2 ^ 16 + u / 2 ^ 15 ≡ l + u * 2 ^ 16 [MOD prngMod] := by
  have hsplit : l + u * 2 ^ 16 = l + u % 2 ^ 15 * 2 ^ 16 + u / 2 ^ 15 + prngMod * (u / 2 ^ 15) := by
    unfold prngMod
    omega
  rw [hsplit]
  exact (Nat.add_mul_mod_self_left _ _ _).symm

/-- The two folded sums of R192 reduce `l' + u' * 2 ^ 16` exactly. -/
theorem foldedSums_modEq {l : Word} (hl : l.toNat ≤ prngMod) (u : Word) :
    (foldCarry (foldCarry (l + ((u &&& 0x7FFF#32) <<< 16)) + (u >>> 15))).toNat ≡
      l.toNat + u.toNat * 2 ^ 16 [MOD prngMod] := by
  have hmid : ((u &&& 0x7FFF#32) <<< 16).toNat = u.toNat % 2 ^ 15 * 2 ^ 16 := toNat_low15_shiftLeft u
  have htop : (u >>> 15).toNat = u.toNat / 2 ^ 15 := by simp [Nat.shiftRight_eq_div_pow]
  have hmidLe : ((u &&& 0x7FFF#32) <<< 16).toNat ≤ prngMod := hmid.trans_le (by unfold prngMod; omega)
  have htopLe : (u >>> 15).toNat ≤ prngMod := htop.trans_le (by unfold prngMod; omega)
  obtain ⟨hfirstLe, -⟩ := foldCarry_add_bounds hl hmidLe
  calc (foldCarry (foldCarry (l + ((u &&& 0x7FFF#32) <<< 16)) + (u >>> 15))).toNat
      ≡ (foldCarry (l + ((u &&& 0x7FFF#32) <<< 16))).toNat + (u >>> 15).toNat [MOD prngMod] :=
        foldCarry_add_modEq hfirstLe htopLe
    _ ≡ l.toNat + ((u &&& 0x7FFF#32) <<< 16).toNat + (u >>> 15).toNat [MOD prngMod] :=
        (foldCarry_add_modEq hl hmidLe).add_right _
    _ ≡ l.toNat + u.toNat * 2 ^ 16 [MOD prngMod] := by
        rw [hmid, htop]
        exact splitProduct_modEq _ _

/-- R193: a step multiplies by 16807 modulo 2^31 - 1, whatever word it starts from. -/
theorem prngNext_modEq (w : Word) : (prngNext w).toNat ≡ w.toNat * 16807 [MOD prngMod] := by
  have hl : ((w &&& 0xFFFF#32) * prngMult).toNat ≤ prngMod :=
    (toNat_lowerProduct w).trans_le (by unfold prngMod; omega)
  calc (prngNext w).toNat
      ≡ ((w &&& 0xFFFF#32) * prngMult).toNat + ((w >>> 16) * prngMult).toNat * 2 ^ 16 [MOD prngMod] :=
        foldedSums_modEq hl _
    _ = w.toNat * 16807 := by
        rw [toNat_lowerProduct, toNat_upperProduct]
        omega

/-- Settles O27: the step is exact modulo 2^31 - 1, and it answers the modulus only where that divides `s`. -/
theorem generatorIsParkMiller : Obligations.GeneratorIsParkMiller := by
  refine ⟨fun s hpos hle => ?_, by decide, by decide⟩
  have hlt : s.toNat < prngMod := Nat.lt_succ_of_le hle
  have hmod := prngNext_modEq s
  obtain ⟨hnextPos, hnextLe⟩ := prngNext_isSeed (w := s) ⟨hpos, hlt.le⟩
  have hne : (prngNext s).toNat ≠ prngMod := by
    intro heq
    have hdvd : prngMod ∣ s.toNat * 16807 := (hmod.dvd_iff dvd_rfl).mp heq.symm.dvd
    have hcoprime : Nat.Coprime prngMod 16807 := by decide
    exact Nat.not_dvd_of_pos_of_lt hpos hlt (hcoprime.dvd_of_dvd_mul_right hdvd)
  have hnextLt : (prngNext s).toNat < prngMod := lt_of_le_of_ne hnextLe hne
  exact ⟨(Nat.mod_eq_of_lt hnextLt).symm.trans hmod, hnextPos, Nat.le_of_lt_succ hnextLt⟩

/-! ### The conditioner -/

/-- The bits that `popcount31` counts. -/
def seedBits (v : Word) : Finset Nat :=
  (Finset.range 31).filter fun i => v.getLsbD i = true

theorem mem_seedBits {v : Word} {i : Nat} : i ∈ seedBits v ↔ i < 31 ∧ v.getLsbD i = true := by
  simp [seedBits]

theorem popcount31_eq_card (v : Word) : popcount31 v = (seedBits v).card := by
  have hfilter : (seedBits v).card = ((List.range 31).filter fun i => decide (v.getLsbD i = true)).length := rfl
  simp only [hfilter, popcount31, List.countP_eq_length_filter, Bool.decide_eq_true]

theorem seedBits_mask (c : Word) : seedBits (c &&& 0x7FFFFFFF#32) = seedBits c := by
  have hmask : ∀ i < 31, (0x7FFFFFFF#32).getLsbD i = true := by decide
  refine Finset.ext fun i => ?_
  rw [mem_seedBits, mem_seedBits, BitVec.getLsbD_and]
  exact and_congr_right fun hi => by rw [hmask i hi, Bool.and_true]

theorem seedBits_setBits (s : Word) {bits : List Nat} (h : ∀ b ∈ bits, b < 31) :
    seedBits (setBits s bits) = seedBits s ∪ bits.toFinset := by
  refine Finset.ext fun i => ?_
  rw [Finset.mem_union, mem_seedBits, mem_seedBits, List.mem_toFinset]
  by_cases hi : i < 31
  · simp [hi, getLsbD_setBits s bits (i := i) (by omega)]
  · simp [hi, mt (h i) hi]

theorem seedBits_clearBits (s : Word) (bits : List Nat) :
    seedBits (clearBits s bits) = seedBits s \ bits.toFinset := by
  refine Finset.ext fun i => ?_
  rw [Finset.mem_sdiff, mem_seedBits, mem_seedBits, List.mem_toFinset, and_assoc]
  exact and_congr_right fun hi => by simp [getLsbD_clearBits s bits (i := i) (by omega)]

/-- The first `n` reserved bits are `n` bits, as long as there are so many. -/
theorem card_take_seedB {n : Nat} (h : n ≤ 8) : (seedB.take n).toFinset.card = n := by
  have hnodup : seedB.Nodup := by decide
  rw [List.toFinset_card_of_nodup (hnodup.sublist (List.take_sublist n seedB)), List.length_take]
  exact Nat.min_eq_left h

/-- What steps 1 to 5 of R190 make of `c`. -/
def conditioned (c : Word) : Word :=
  if popcount31 c < 8 then setBits (c &&& 0x7FFFFFFF#32) (seedB.take (8 - popcount31 c))
  else if 24 < popcount31 c then clearBits (c &&& 0x7FFFFFFF#32) (seedB.take (32 - popcount31 c))
  else c &&& 0x7FFFFFFF#32

theorem popcount31_mask (c : Word) : popcount31 (c &&& 0x7FFFFFFF#32) = popcount31 c := by
  rw [popcount31_eq_card, seedBits_mask, popcount31_eq_card]

theorem popcount31_le (c : Word) : popcount31 c ≤ 31 := by
  rw [popcount31_eq_card]
  exact (Finset.card_filter_le _ _).trans_eq (Finset.card_range 31)

/-- Step 4 of R190: of `p` bits and `8 - p` bits, one is at least 4, and together they are at most 8. -/
theorem popcount31_setBits_seedB {c : Word} (h : popcount31 c < 8) :
    4 ≤ popcount31 (setBits (c &&& 0x7FFFFFFF#32) (seedB.take (8 - popcount31 c))) ∧
      popcount31 (setBits (c &&& 0x7FFFFFFF#32) (seedB.take (8 - popcount31 c))) ≤ 8 := by
  have hseedB : ∀ b ∈ seedB, b < 31 := by decide
  have hcard := card_take_seedB (n := 8 - popcount31 c) (by omega)
  rw [popcount31_eq_card (setBits _ _), seedBits_setBits _ fun b hb => hseedB b (List.mem_of_mem_take hb),
    seedBits_mask]
  have hold : (seedBits c).card ≤ (seedBits c ∪ (seedB.take (8 - popcount31 c)).toFinset).card :=
    Finset.card_le_card Finset.subset_union_left
  have hnew : (seedB.take (8 - popcount31 c)).toFinset.card ≤
      (seedBits c ∪ (seedB.take (8 - popcount31 c)).toFinset).card :=
    Finset.card_le_card Finset.subset_union_right
  have hboth := Finset.card_union_le (seedBits c) (seedB.take (8 - popcount31 c)).toFinset
  rw [← popcount31_eq_card] at hold hboth
  omega

/-- Step 5 of R190: at most 7 of at least 25 bits are cleared, and bit 12 is always one of them. -/
theorem popcount31_clearBits_seedB {c : Word} (h : 24 < popcount31 c) :
    18 ≤ popcount31 (clearBits (c &&& 0x7FFFFFFF#32) (seedB.take (32 - popcount31 c))) ∧
      popcount31 (clearBits (c &&& 0x7FFFFFFF#32) (seedB.take (32 - popcount31 c))) ≤ 30 := by
  have hle := popcount31_le c
  have hcard := card_take_seedB (n := 32 - popcount31 c) (by omega)
  rw [popcount31_eq_card (clearBits _ _), seedBits_clearBits, seedBits_mask]
  constructor
  · have hrest := Finset.le_card_sdiff (seedB.take (32 - popcount31 c)).toFinset (seedBits c)
    rw [← popcount31_eq_card] at hrest
    omega
  · have hmem : 12 ∈ (seedB.take (32 - popcount31 c)).toFinset := by
      obtain ⟨n, hn⟩ : ∃ n, 32 - popcount31 c = n + 1 := ⟨31 - popcount31 c, by omega⟩
      rw [hn, List.mem_toFinset]
      exact List.mem_cons_self
    have hsub : seedBits c \ (seedB.take (32 - popcount31 c)).toFinset ⊆ (Finset.range 31).erase 12 := by
      intro i hi
      obtain ⟨hbit, hnot⟩ := Finset.mem_sdiff.mp hi
      exact Finset.mem_erase.mpr ⟨fun he => hnot (he ▸ hmem), Finset.mem_range.mpr (mem_seedBits.mp hbit).1⟩
    exact Finset.card_le_card hsub

theorem popcount31_conditioned (c : Word) : 4 ≤ popcount31 (conditioned c) ∧ popcount31 (conditioned c) ≤ 30 := by
  unfold conditioned
  split_ifs with hfew hmany
  · have hset := popcount31_setBits_seedB hfew
    omega
  · have hclear := popcount31_clearBits_seedB hmany
    omega
  · rw [popcount31_mask]
    omega

theorem bit31_conditioned (c : Word) : (conditioned c).getLsbD 31 = false := by
  unfold conditioned
  split_ifs
  · exact bit31_setBits_seedB (getLsbD_seedMask c) _
  · exact bit31_clearBits (getLsbD_seedMask c) _
  · exact getLsbD_seedMask c

theorem toNat_le_of_bit31 {v : Word} (h : v.getLsbD 31 = false) : v.toNat ≤ prngMod := by
  have hlt : 2 * v.toNat < 2 ^ 32 :=
    BitVec.msb_eq_false_iff_two_mul_lt.mp ((BitVec.msb_eq_getLsbD_last v).trans h)
  unfold prngMod
  omega

/-- The mask of `PRNG_STATE` keeps a word below `2 ^ 31`. -/
theorem mask_eq_self {v : Word} (h : v.toNat ≤ prngMod) : v &&& 0x7FFFFFFF#32 = v := by
  unfold prngMod at h
  refine BitVec.eq_of_toNat_eq ?_
  rw [toNat_and_seedMask]
  omega

/-- R190: at most one of steps 4 and 5 runs, and step 6 ends the conditioning. -/
theorem condition_eq_lastStep (c : Word) :
    condition c = if conditioned c = 0#32 then 1#32 else conditioned c &&& 0x7FFFFFFF#32 := by
  unfold condition conditioned
  simp only [popcount31_mask]
  by_cases hfew : popcount31 c < 8
  · have hnotMany : ¬ popcount31 c > 24 := by omega
    simp only [if_pos hfew, if_neg hnotMany]
  · simp only [if_neg hfew, gt_iff_lt]

/-- R191: the zero test of step 6 never fires, and its mask finds bit 31 clear. -/
theorem condition_eq_conditioned (c : Word) : condition c = conditioned c := by
  have hne : conditioned c ≠ 0#32 := by
    intro hzero
    obtain ⟨hfour, -⟩ := popcount31_conditioned c
    have hnone : popcount31 0#32 = 0 := by decide
    rw [hzero, hnone] at hfour
    omega
  rw [condition_eq_lastStep, if_neg hne, mask_eq_self (toNat_le_of_bit31 (bit31_conditioned c))]

theorem popcount31_condition (c : Word) : 4 ≤ popcount31 (condition c) ∧ popcount31 (condition c) ≤ 30 :=
  condition_eq_conditioned c ▸ popcount31_conditioned c

/-- R191: a word with 8 to 24 bits set among bits 30:0 is only masked. -/
theorem condition_of_balanced {c : Word} (hlow : 8 ≤ popcount31 c) (hhigh : popcount31 c ≤ 24) :
    condition c = c &&& 0x7FFFFFFF#32 := by
  rw [condition_eq_conditioned, conditioned, if_neg (Nat.not_lt.mpr hlow), if_neg (Nat.not_lt.mpr hhigh)]

/-- R191: with no bit set among bits 30:0, all the reserved bits are set, and no other. -/
theorem condition_of_none {c : Word} (h : popcount31 c = 0) : condition c = 0x2A801540 := by
  have hbits : seedBits c = ∅ := Finset.card_eq_zero.mp ((popcount31_eq_card c).symm.trans h)
  have hmask : c &&& 0x7FFFFFFF#32 = 0#32 := by
    refine BitVec.eq_of_getLsbD_eq fun i hi => ?_
    by_cases hi31 : i = 31
    · rw [hi31, getLsbD_seedMask, BitVec.getLsbD_zero]
    · have hclear : c.getLsbD i = false := by
        have hnot : i ∉ seedBits c := by simp [hbits]
        simpa [mem_seedBits, show i < 31 by omega] using hnot
      rw [BitVec.getLsbD_and, hclear, Bool.false_and, BitVec.getLsbD_zero]
  rw [condition_eq_conditioned, conditioned, h, hmask]
  rfl

/-- The fixed point 0x7FFFFFFF has 31 bits set, one more than the conditioner leaves. -/
theorem toNat_condition_lt (c : Word) : (condition c).toNat < prngMod := by
  obtain ⟨-, hle⟩ := condition_isSeed c
  refine lt_of_le_of_ne hle fun heq => ?_
  have hones : condition c = 0x7FFFFFFF#32 := BitVec.eq_of_toNat_eq heq
  have hall : popcount31 0x7FFFFFFF#32 = 31 := by decide
  obtain ⟨-, hthirty⟩ := popcount31_condition c
  rw [hones, hall] at hthirty
  omega

/-- Settles O29: the bits counted after steps 4 and 5, and the two cases R191 singles out. -/
theorem conditionedSeedRange : Obligations.ConditionedSeedRange := by
  intro c
  obtain ⟨hpos, -⟩ := condition_isSeed c
  obtain ⟨hfour, hthirty⟩ := popcount31_condition c
  exact ⟨hpos, Nat.le_of_lt_succ (toNat_condition_lt c), hfour, hthirty, condition_of_balanced, condition_of_none⟩

/-! ### `SEED` and `NEXT` -/

/-- `PRNG_STATE` reads as the word stored, where bit 31 of that is 0 (R44). -/
theorem State.setPrng_prngWord {v : Word} (h : v.toNat ≤ prngMod) (s : State) :
    (s.setPrng v).blk.prngWord = v :=
  (zeroExtend_storedSeed v).trans (mask_eq_self h)

theorem Block.toNat_prngWord_le (b : Block) : b.prngWord.toNat ≤ prngMod := by
  have hlt := b.prng.isLt
  rw [Block.prngWord, BitVec.toNat_setWidth, prngMod]
  omega

/-- A step stays below `2 ^ 31`, from the forbidden 0 as well. -/
theorem toNat_prngNext_le {w : Word} (h : w.toNat ≤ prngMod) : (prngNext w).toNat ≤ prngMod := by
  rcases Nat.eq_zero_or_pos w.toNat with hzero | hpos
  · obtain rfl : w = 0#32 := BitVec.eq_of_toNat_eq hzero
    decide
  · exact (prngNext_isSeed ⟨hpos, h⟩).2

theorem toNat_prngAfter_le (n : Nat) {w : Word} (h : w.toNat ≤ prngMod) : (prngAfter n w).toNat ≤ prngMod := by
  induction n generalizing w with
  | zero => exact h
  | succ n ih => exact ih (toNat_prngNext_le h)

/-- Settles O10: no operand to check, a conditioned word reads as stored, and the corner cases are R191's. -/
theorem seedConditionsArg : Obligations.SeedConditionsArg := by
  refine ⟨decode_encode .seed, fun s => ?_, fun c => condition_of_balanced, condition_of_none (by decide),
    condition_of_none (by decide), by decide, condition_of_balanced (by decide) (by decide)⟩
  have hok : operandError .seed s.blk s.memSize = none := rfl
  exact ⟨_, exec_of_ok hok, rfl, s.setPrng_prngWord (condition_isSeed s.blk.arg).2⟩

/-- Settles O11: no operand to check, and the next output reads as stored. -/
theorem nextStepsTheGenerator : Obligations.NextStepsTheGenerator := by
  intro s
  have hok : operandError .next s.blk s.memSize = none := rfl
  exact ⟨_, exec_of_ok hok, rfl, s.setPrng_prngWord (toNat_prngNext_le s.blk.toNat_prngWord_le)⟩

/-! ### `FILL` -/

/-- R198: the range written is the one operand to check. -/
theorem rangesValid_fill (b : Block) (memSize : Nat) :
    RangesValid .fill b memSize ↔ RangeOk b.dst.toNat b.dstLen.toNat memSize := by
  simp [RangesValid, operandRanges, Block.destRange]

/-- R198: over a valid range the bytes are stored and the last state drawn is kept. -/
theorem exec_fill_of_rangeOk {s : State} (h : RangeOk s.blk.dst.toNat s.blk.dstLen.toNat s.memSize) :
    exec .fill s = .next ((s.storeBytes s.blk.dst.toNat (prngFill s.blk.dstLen.toNat s.blk.prngWord)).setPrng
      (prngAfter s.blk.dstLen.toNat s.blk.prngWord)).complete := by
  have hok : operandError .fill s.blk s.memSize = none := by
    rw [operandError_eq, if_neg (not_not.mpr ((rangesValid_fill _ _).mpr h))]
    simp [PairsApart, CapacityFits, overlapPairs]
  exact exec_of_ok hok

/-- What `PRNG_STATE` reads as, stored again, changes nothing. -/
theorem State.setPrng_self (s : State) : s.setPrng s.blk.prngWord = s := by
  have hstored : s.blk.prngWord.setWidth 31 = s.blk.prng := by simp [Block.prngWord]
  rw [State.setPrng, hstored]

/-- Settles O12: R144's checks leave the range alone to fail, and no bytes draw no output. -/
theorem fillWritesOutputBytes : Obligations.FillWritesOutputBytes := by
  refine ⟨decode_encode .fill, fun s => ⟨fun hr => ?_, fun hr => ?_, fun hempty => ?_⟩, by decide, by decide⟩
  · exact ⟨_, exec_fill_of_rangeOk hr, rfl,
      s.setPrng_prngWord (toNat_prngAfter_le _ s.blk.toNat_prngWord_le)⟩
  · obtain ⟨hrange, -⟩ := operandChecksInOrder .fill s
    exact hrange fun h => hr ((rangesValid_fill _ _).mp h)
  · have hnone : s.blk.dstLen.toNat = 0 := by rw [hempty]; rfl
    rw [exec_fill_of_rangeOk (.inl hnone), hnone]
    exact congrArg (fun t : State => Host.Outcome.next t.complete) s.setPrng_self

/-- R195: byte `k` is the low byte of output `k + 1`. -/
theorem getElem_prngFill (n : Nat) (g : Word) {k : Nat} (h : k < (prngFill n g).length) :
    (prngFill n g)[k] = lowByte (prngAfter (k + 1) g) := by
  induction n generalizing g k with
  | zero => cases h
  | succ n ih =>
    cases k with
    | zero => rfl
    | succ k => exact ih (prngNext g) (Nat.lt_of_succ_lt_succ h)

/-- Settles O20: the bytes stored read back, and the rest is the memory's frame (O19). -/
theorem fillStoresExactly : Obligations.FillStoresExactly := by
  intro s hwf hr
  have hexec := exec_fill_of_rangeOk hr
  refine ⟨_, hexec, fun k hk => ?_, fun x hx => ?_⟩
  · have hlen : k < (prngFill s.blk.dstLen.toNat s.blk.prngWord).length := by rwa [length_prngFill]
    exact (Memory.read_writeBytes_same s.mem hwf _ _ k hlen).trans (getElem_prngFill _ _ hlen)
  · exact commandsKeepOtherMemory .fill s _ x hexec (fun _ => hx) (fun h => absurd h (by decide))
      (fun h => absurd h (by decide))

end Sys2Proof.Machine
end

section
/-! PROOFS. Key derivation (spec/43_keygen.md): the checks the four `KEYGEN` commands make, the key they deliver, and
what each of them does. All four are `keygenCommand` of a game and the flag `RAND` (R106). -/

namespace Sys2Proof.Machine

/-- R107, third column: the key is written, and with `RAND` the name is read. -/
theorem operandRanges_keygenCommand (game : Game) (randomize : Bool) (b : Block) :
    operandRanges (keygenCommand game randomize) b =
      if randomize then [b.sourceRange, b.keyOutRange] else [b.keyOutRange] := by
  cases game <;> cases randomize <;> rfl

/-- R107, fourth column: with `RAND`, the name and the key must not overlap. -/
theorem overlapPairs_keygenCommand (game : Game) (randomize : Bool) (b : Block) :
    overlapPairs (keygenCommand game randomize) b =
      if randomize then [(b.sourceRange, b.keyOutRange)] else [] := by
  cases game <;> cases randomize <;> rfl

theorem rangesValid_keygenCommand (game : Game) (randomize : Bool) (b : Block) (memSize : Nat) :
    RangesValid (keygenCommand game randomize) b memSize ↔
      (randomize = true → RangeOk b.src.toNat b.srcLen.toNat memSize) ∧ b.dst.toNat + 16 ≤ memSize := by
  rw [RangesValid, operandRanges_keygenCommand]
  cases randomize <;> simp [Block.sourceRange, Block.keyOutRange, keyLen]

theorem pairsApart_keygenCommand (game : Game) (randomize : Bool) (b : Block) :
    PairsApart (keygenCommand game randomize) b ↔
      (randomize = true → RangesApart b.src.toNat b.srcLen.toNat b.dst.toNat 16) := by
  rw [PairsApart, overlapPairs_keygenCommand]
  cases randomize <;> simp [Block.sourceRange, Block.keyOutRange, keyLen]

/-- R222: without `RAND` the name does not enter the key. -/
theorem makeKey_constant (name : List Byte) (game : Game) : makeKey name false game = keyConst game := rfl

/-- R224: every `KEYGEN` command delivers the key of `make_key`. -/
theorem operationOf_keygenCommand (game : Game) (randomize : Bool) (s : State) :
    operationOf (keygenCommand game randomize) s =
      (s.deliverKey (makeKey s.sourceBytes randomize game), .none) := by
  cases randomize with
  | false =>
    rw [makeKey_constant]
    cases game <;> rfl
  | true => cases game <;> rfl

/-- R224: the state a `KEYGEN` command leaves: the key at `DST` and its CRC in `RESULT`. -/
theorem State.complete_deliverKey (s : State) (key : List Byte) :
    (s.deliverKey key).complete = { s with
      mem := s.mem.writeBytes s.blk.dst.toNat key
      blk := { s.blk with result := crc32 key, status := 0x00000002, pending := none } } := rfl

/-- R144: no `KEYGEN` command has a capacity to check. -/
theorem capacityFits_keygenCommand (game : Game) (randomize : Bool) (b : Block) :
    CapacityFits (keygenCommand game randomize) b := by
  cases game <;> cases randomize <;> exact nofun

/-- R224: where the checks pass, the key is delivered and the command completes. -/
theorem exec_keygenCommand_of_ok {game : Game} {randomize : Bool} {s : State}
    (hranges : RangesValid (keygenCommand game randomize) s.blk s.memSize)
    (hapart : PairsApart (keygenCommand game randomize) s.blk) :
    exec (keygenCommand game randomize) s =
      .next (s.deliverKey (makeKey s.sourceBytes randomize game)).complete := by
  have hok : operandError (keygenCommand game randomize) s.blk s.memSize = none := by
    rw [operandError_eq, if_neg (not_not.mpr hranges), if_neg (not_not.mpr hapart),
      if_neg (not_not.mpr (capacityFits_keygenCommand game randomize s.blk))]
  rw [exec_of_ok hok, operationOf_keygenCommand]
  rfl

/-- R222, R224: without `RAND` the constant of the game is delivered, and the range of the key alone can fail. -/
theorem exec_keygenCommand_constant (game : Game) (s : State) :
    (s.blk.dst.toNat + 16 ≤ s.memSize →
      exec (keygenCommand game false) s = .next (s.deliverKey (keyConst game)).complete) ∧
    (s.memSize < s.blk.dst.toNat + 16 → exec (keygenCommand game false) s = .next (s.failed .range)) := by
  obtain ⟨hrange, -⟩ := operandChecksInOrder (keygenCommand game false) s
  have hranges := rangesValid_keygenCommand game false s.blk s.memSize
  have hapart := (pairsApart_keygenCommand game false s.blk).mpr nofun
  refine ⟨fun hkey => exec_keygenCommand_of_ok (hranges.mpr ⟨nofun, hkey⟩) hapart,
    fun hkey => hrange fun h => ?_⟩
  obtain ⟨-, hfits⟩ := hranges.mp h
  exact absurd hfits hkey.not_ge

/-- The CRC of the ADK key constant of R220, as R224 gives it. -/
theorem crc32_keyConst_adk : crc32 (keyConst .adk) = 0xC5622785 := by decide +kernel

/-- The CRC of the DNG key constant of R220, as R224 gives it. -/
theorem crc32_keyConst_dng : crc32 (keyConst .dng) = 0xD7E4A7F3 := by decide +kernel

/-- Settles O13: each game's constant key is delivered, with its CRC evaluated. -/
theorem keygenConstantKey : Obligations.KeygenConstantKey := by
  intro s
  obtain ⟨hadk, hadkRange⟩ := exec_keygenCommand_constant .adk s
  obtain ⟨hdng, hdngRange⟩ := exec_keygenCommand_constant .dng s
  rw [State.complete_deliverKey, crc32_keyConst_adk] at hadk
  rw [State.complete_deliverKey, crc32_keyConst_dng] at hdng
  exact ⟨fun hkey => ⟨hadk hkey, hdng hkey⟩, fun hkey => ⟨hadkRange hkey, hdngRange hkey⟩⟩

/-- Settles O14: both commands are `keygenCommand` with `RAND`, whose checks are those of the statement. -/
theorem keygenRandomizedKey : Obligations.KeygenRandomizedKey := by
  intro s i game hi nameOk keyOk apart key
  obtain rfl : i = keygenCommand game true := by
    rcases hi with ⟨rfl, rfl⟩ | ⟨rfl, rfl⟩ <;> rfl
  have hranges : RangesValid (keygenCommand game true) s.blk s.memSize ↔ nameOk ∧ keyOk :=
    (rangesValid_keygenCommand game true s.blk s.memSize).trans (by simp [nameOk, keyOk])
  have hapart : PairsApart (keygenCommand game true) s.blk ↔ apart :=
    (pairsApart_keygenCommand game true s.blk).trans (by simp [apart])
  obtain ⟨hrange, hoverlap, -⟩ := operandChecksInOrder (keygenCommand game true) s
  refine ⟨fun ⟨hname, hkey, ha⟩ => ?_, fun h => hrange (mt hranges.mp h), fun ⟨hname, hkey, ha⟩ => ?_⟩
  · exact exec_keygenCommand_of_ok (hranges.mpr ⟨hname, hkey⟩) (hapart.mpr ha)
  · exact hoverlap (hranges.mpr ⟨hname, hkey⟩) (mt hapart.mp ha)

end Sys2Proof.Machine
end

section
/-! PROOFS. The stream obfuscator (spec/44_obfuscate.md): its two passes XOR each byte with a mask that depends on the
key, the length and the index alone, so it undoes itself; and what `OBF` does. -/

namespace Sys2Proof.Machine

/-! ### The draws -/

/-- A draw masked by `m` is at most `m` (R240). -/
theorem toNat_and_le (g m : Word) : (g &&& m).toNat ≤ m.toNat := by
  rw [BitVec.toNat_and]
  exact Nat.and_le_right

theorem length_pad1_obfDraws (key : List Byte) (n : Nat) :
    128 ≤ (obfDraws key n).pad1.length ∧ (obfDraws key n).pad1.length ≤ 255 := by
  simp only [obfDraws, length_prngFill]
  exact ⟨Nat.le_add_left _ _, Nat.add_le_add_right (toNat_and_le _ 0x7F) 0x80⟩

theorem length_pad2_obfDraws (key : List Byte) (n : Nat) :
    17 ≤ (obfDraws key n).pad2.length ∧ (obfDraws key n).pad2.length ≤ 32 := by
  simp only [obfDraws, length_prngFill]
  exact ⟨Nat.le_add_left _ _, Nat.add_le_add_right (toNat_and_le _ 0x0F) 0x11⟩

theorem start_obfDraws_lt (key : List Byte) {n : Nat} (h : 0 < n) : (obfDraws key n).start < n :=
  Nat.mod_lt _ h

theorem stride_obfDraws (key : List Byte) (n : Nat) :
    8192 ≤ (obfDraws key n).stride ∧ (obfDraws key n).stride ≤ 16383 :=
  ⟨Nat.le_add_left _ _, Nat.add_le_add_right (toNat_and_le _ 0x1FFF) 0x2000⟩

/-! ### The two passes -/

/-- The XOR that pass B applies at index `k` when its loop is begun at index `i` (R242). -/
def passBMask (d : ObfDraws) (key : List Byte) (i k : Nat) : Byte :=
  if i ≤ k ∧ (k - i) % d.stride = 0 then d.pad2.getD (passBIndex d key k) 0 else 0

theorem passBMask_self (d : ObfDraws) (key : List Byte) (i : Nat) :
    passBMask d key i i = d.pad2.getD (passBIndex d key i) 0 := by
  simp [passBMask]

theorem passBMask_of_lt {d : ObfDraws} {key : List Byte} {i k : Nat} (h : k < i) : passBMask d key i k = 0 :=
  if_neg fun ⟨hle, _⟩ => absurd h hle.not_gt

/-- Past index `i`, the loop begun at `i` visits what the loop begun one stride later visits. -/
theorem passBMask_add_stride {d : ObfDraws} (key : List Byte) {i k : Nat} (h : k ≠ i) :
    passBMask d key (i + d.stride) k = passBMask d key i k := by
  have hvisited : (i + d.stride ≤ k ∧ (k - (i + d.stride)) % d.stride = 0) ↔
      (i ≤ k ∧ (k - i) % d.stride = 0) := by
    rcases Nat.lt_or_ge k (i + d.stride) with hlt | hge
    · refine iff_of_false (fun ⟨hle, _⟩ => absurd hlt hle.not_gt) fun ⟨hle, hmod⟩ => ?_
      rw [Nat.mod_eq_of_lt (by omega)] at hmod
      omega
    · have hmod : (k - i) % d.stride = (k - (i + d.stride)) % d.stride := by
        rw [Nat.mod_eq_sub_mod (by omega), Nat.sub_sub]
      simp [hmod, hge, (Nat.le_add_right i _).trans hge]
  simp only [passBMask, hvisited]

/-- A loop begun past the end has no byte left to visit. -/
theorem map_passBMask_of_length_le {d : ObfDraws} {key : List Byte} {i : Nat} {data : List Byte}
    (h : data.length ≤ i) (k : Nat) : data[k]?.map (· ^^^ passBMask d key i k) = data[k]? := by
  rcases Nat.lt_or_ge k data.length with hk | hk
  · simp [passBMask_of_lt (hk.trans_le h)]
  · simp [hk]

/-- R242: with turns enough to reach the end, the loop XORs every byte with its mask. -/
theorem getElem?_passBLoop {d : ObfDraws} (hstride : 0 < d.stride) (key : List Byte) {n i : Nat}
    {data : List Byte} (hturns : data.length ≤ i + n) (k : Nat) :
    (passBLoop d key n i data)[k]? = data[k]?.map (· ^^^ passBMask d key i k) := by
  induction n generalizing i data with
  | zero => exact (map_passBMask_of_length_le hturns k).symm
  | succ n ih =>
    rw [passBLoop]
    split
    case isTrue hi =>
      rw [ih (by rw [List.length_set]; omega)]
      by_cases hk : k = i
      · subst hk
        simp [hi, passBMask_self, passBMask_of_lt (Nat.lt_add_of_pos_right hstride)]
      · rw [List.getElem?_set_ne (Ne.symm hk), passBMask_add_stride key hk]
    case isFalse hi => exact (map_passBMask_of_length_le (Nat.le_of_not_lt hi) k).symm

/-- R241: pass A XORs every byte with its mask. -/
theorem getElem?_passA (d : ObfDraws) (data : List Byte) (k : Nat) :
    (passA d data)[k]? = data[k]?.map (· ^^^ passAMask d k) :=
  List.getElem?_mapIdx

/-- What both passes together XOR at index `k`: the data does not enter it (R244). -/
def obfMask (d : ObfDraws) (key : List Byte) (k : Nat) : Byte :=
  passAMask d k ^^^ passBMask d key d.start k

theorem getElem?_obfuscate (data key : List Byte) (k : Nat) :
    (obfuscate data key)[k]? = data[k]?.map (· ^^^ obfMask (obfDraws key data.length) key k) := by
  unfold obfuscate
  split
  case isTrue hempty => simp [List.length_eq_zero_iff.mp hempty]
  case isFalse =>
    obtain ⟨hstride, -⟩ := stride_obfDraws key data.length
    have hturns : (passA (obfDraws key data.length) data).length ≤
        (obfDraws key data.length).start + data.length := by simp [passA]
    rw [getElem?_passBLoop (Nat.zero_lt_of_lt hstride) key hturns, getElem?_passA, Option.map_map]
    simp only [Function.comp_def, BitVec.xor_assoc, obfMask]

/-- Settles O31: the ranges of the draws, and the mask of both passes at index `k`. -/
theorem obfuscatorByteByByte : Obligations.ObfuscatorByteByByte := by
  intro data key hdata d
  obtain ⟨hpad1, hpad1'⟩ := length_pad1_obfDraws key data.length
  obtain ⟨hpad2, hpad2'⟩ := length_pad2_obfDraws key data.length
  refine ⟨⟨hpad1, hpad1', hpad2, hpad2', start_obfDraws_lt key hdata, stride_obfDraws key data.length⟩, fun k hk => ?_⟩
  rw [getElem?_obfuscate, List.getElem?_eq_getElem hk, Option.map_some, BitVec.xor_assoc]
  rfl

/-- Settles O30: both runs XOR byte `k` with one mask, since the length is kept. -/
theorem obfuscatorIsInvolution : Obligations.ObfuscatorIsInvolution := by
  intro data key
  refine List.ext_getElem? fun k => ?_
  have htwice (b m : Byte) : b ^^^ m ^^^ m = b := by rw [BitVec.xor_assoc, BitVec.xor_self, BitVec.xor_zero]
  rw [getElem?_obfuscate, length_obfuscate, getElem?_obfuscate, Option.map_map]
  simp only [Function.comp_def, htwice, Option.map_id']

/-! ### `OBF` -/

/-- R107, third column: the data range and the 16 bytes of the key. -/
theorem rangesValid_obf (b : Block) (memSize : Nat) :
    RangesValid .obf b memSize ↔ RangeOk b.src.toNat b.srcLen.toNat memSize ∧ b.key.toNat + 16 ≤ memSize := by
  simp [RangesValid, operandRanges, Block.dataRange, Block.keyInRange, keyLen]

/-- R107, fourth column: the data and the key must not overlap. -/
theorem pairsApart_obf (b : Block) :
    PairsApart .obf b ↔ RangesApart b.src.toNat b.srcLen.toNat b.key.toNat 16 := by
  simp [PairsApart, overlapPairs, Block.dataRange, Block.keyInRange, keyLen]

/-- R246: where the checks pass, the obfuscated data goes back to `SRC` and the command completes. -/
theorem exec_obf_of_ok {s : State} (hranges : RangesValid .obf s.blk s.memSize) (hapart : PairsApart .obf s.blk) :
    exec .obf s = .next (s.storeBytes s.blk.src.toNat (obfuscate s.sourceBytes s.keyBytes)).complete := by
  have hok : operandError .obf s.blk s.memSize = none := by
    rw [operandError_eq, if_neg (not_not.mpr hranges), if_neg (not_not.mpr hapart), if_neg (not_not.mpr nofun)]
  exact exec_of_ok hok

/-- Settles O15: R144's checks are those of the statement, in its order. -/
theorem obfTransformsInPlace : Obligations.ObfTransformsInPlace := by
  intro s dataOk keyOk apart
  have hranges : RangesValid .obf s.blk s.memSize ↔ dataOk ∧ keyOk := rangesValid_obf s.blk s.memSize
  have hapart : PairsApart .obf s.blk ↔ apart := pairsApart_obf s.blk
  obtain ⟨hrange, hoverlap, -⟩ := operandChecksInOrder .obf s
  refine ⟨fun ⟨hdata, hkey, ha⟩ => ?_, fun h => hrange (mt hranges.mp h), fun ⟨hdata, hkey, ha⟩ => ?_⟩
  · exact exec_obf_of_ok (hranges.mpr ⟨hdata, hkey⟩) (hapart.mpr ha)
  · exact hoverlap (hranges.mpr ⟨hdata, hkey⟩) (mt hapart.mp ha)

end Sys2Proof.Machine
end

section
/-! PROOFS. The LZSS decoder (spec/45_lzss_decode.md): `SIZE_OVER` is raised only with the expected size written,
which fixes how many bytes go with each code; and what `LZD` does. -/

namespace Sys2Proof.Machine

/-! ### How many bytes go with each code -/

/-- R266: `emit` raises only where the destination is full. -/
theorem produced_of_lzdEmit_error {exp : Nat} {st st' : LzdScratch} {c : Byte}
    (h : lzdEmit exp st c = .error st') : st'.produced = exp := by
  unfold lzdEmit at h
  split at h
  case isTrue hfull =>
    obtain rfl := Except.error.inj h
    exact hfull
  case isFalse => cases h

theorem produced_of_lzdCopy_error {exp : Nat} {len off : Nat} {st st' : LzdScratch}
    (h : lzdCopy exp len off st = .error st') : st'.produced = exp := by
  induction len generalizing off st with
  | zero => cases h
  | succ len ih =>
    unfold lzdCopy at h
    split at h
    next => exact ih h
    next hemit =>
      obtain rfl := Except.error.inj h
      exact produced_of_lzdEmit_error hemit

theorem produced_of_lzdItem_error {exp : Nat} {st st' : LzdScratch}
    (h : lzdItem exp st = some (.error st')) : st'.produced = exp := by
  unfold lzdItem at h
  split at h
  case isTrue =>
    split at h
    next => cases h
    next => exact produced_of_lzdEmit_error (Option.some.inj h)
  case isFalse =>
    split at h
    next => exact produced_of_lzdCopy_error (Option.some.inj h)
    next => cases h
    next => cases h

theorem produced_of_lzdLoop_error {exp n : Nat} {st st' : LzdScratch}
    (h : lzdLoop exp n st = .error st') : st'.produced = exp := by
  induction n generalizing st with
  | zero => cases h
  | succ n ih =>
    unfold lzdLoop at h
    split at h
    next => cases h
    next =>
      split at h
      next => cases h
      next => exact ih h
      next hitem =>
        obtain rfl := Except.error.inj h
        exact produced_of_lzdItem_error hitem

/-- Settles O32: the bytes emitted are as many as counted and no more than expected, and all of them on an error. -/
theorem decoderSizeCodes : Obligations.DecoderSizeCodes := by
  intro input exp d
  have hstart : (lzdStart input).Within exp := ⟨rfl, Nat.zero_le exp⟩
  have hloop := lzdLoop_within input.length hstart
  cases hend : lzdLoop exp input.length (lzdStart input) with
  | error st =>
    have hd : d = { bytes := st.out.reverse, code := .sizeOver } := by simp only [d, lzssDecode, hend]
    rw [hend] at hloop
    obtain ⟨hout, -⟩ := hloop
    refine .inr (.inr ⟨by rw [hd], ?_⟩)
    rw [hd, List.length_reverse, hout, produced_of_lzdLoop_error hend]
  | ok st =>
    have hd : d = { bytes := st.out.reverse, code := if st.produced < exp then .sizeUnder else .none } := by
      simp only [d, lzssDecode, hend]
    rw [hend] at hloop
    obtain ⟨hout, hle⟩ := hloop
    rw [hd, List.length_reverse, hout]
    rcases Nat.lt_or_eq_of_le hle with hunder | hall
    · exact .inr (.inl ⟨if_pos hunder, hunder⟩)
    · exact .inl ⟨if_neg (Nat.not_lt.mpr hall.ge), hall⟩

/-! ### `LZD` -/

/-- R107, third column: the input is read, and the expected size is written. -/
theorem rangesValid_lzd (b : Block) (memSize : Nat) :
    RangesValid .lzd b memSize ↔
      RangeOk b.src.toNat b.srcLen.toNat memSize ∧ RangeOk b.dst.toNat b.dstLen.toNat memSize := by
  simp [RangesValid, operandRanges, Block.sourceRange, Block.destRange]

/-- R107, fourth column: the input and the output must not overlap. -/
theorem pairsApart_lzd (b : Block) :
    PairsApart .lzd b ↔ RangesApart b.src.toNat b.srcLen.toNat b.dst.toNat b.dstLen.toNat := by
  simp [PairsApart, overlapPairs, Block.sourceRange, Block.destRange]

/-- R269: where the checks pass, the bytes produced and their number are written, and the command completes with
the decoder's code. -/
theorem exec_lzd_of_ok {s : State} (hranges : RangesValid .lzd s.blk s.memSize) (hapart : PairsApart .lzd s.blk)
    {d : DecodeResult} (hd : lzssDecode s.sourceBytes s.blk.dstLen.toNat = d) :
    exec .lzd s = .next
      (((s.storeBytes s.blk.dst.toNat d.bytes).setOutLen (BitVec.ofNat 32 d.bytes.length)).finish d.code) := by
  have hok : operandError .lzd s.blk s.memSize = none := by
    rw [operandError_eq, if_neg (not_not.mpr hranges), if_neg (not_not.mpr hapart), if_neg (not_not.mpr nofun)]
  rw [exec_of_ok hok, ← hd]
  rfl

/-- Settles O16: R144's checks are those of the statement, in its order, and each code has its own `STATUS`. -/
theorem lzdDecodesToDestination : Obligations.LzdDecodesToDestination := by
  intro s srcOk dstOk apart d after
  have hranges : RangesValid .lzd s.blk s.memSize ↔ srcOk ∧ dstOk := rangesValid_lzd s.blk s.memSize
  have hapart : PairsApart .lzd s.blk ↔ apart := pairsApart_lzd s.blk
  have hdecoded (hsrc : srcOk) (hdst : dstOk) (ha : apart) :=
    exec_lzd_of_ok (hranges.mpr ⟨hsrc, hdst⟩) (hapart.mpr ha) (d := d) rfl
  obtain ⟨hrange, hoverlap, -⟩ := operandChecksInOrder .lzd s
  refine ⟨fun ⟨hsrc, hdst, ha, hcode⟩ => ?_, fun ⟨hsrc, hdst, ha, hcode⟩ => ?_, fun ⟨hsrc, hdst, ha, hcode⟩ => ?_,
    fun h => hrange (mt hranges.mp h),
    fun ⟨hsrc, hdst, ha⟩ => hoverlap (hranges.mpr ⟨hsrc, hdst⟩) (mt hapart.mp ha)⟩
  all_goals
    rw [hdecoded hsrc hdst ha, hcode]
    rfl

/-- Settles O21: completion leaves memory and `OUT_LEN` alone, and the bytes stored read back. -/
theorem lzdStoresExactlyWhatItProduced : Obligations.LzdStoresExactlyWhatItProduced := by
  intro s hwf hsrc hdst ha d
  have hexec := exec_lzd_of_ok ((rangesValid_lzd s.blk s.memSize).mpr ⟨hsrc, hdst⟩)
    ((pairsApart_lzd s.blk).mpr ha) (d := d) rfl
  have hlen : d.bytes.length < 2 ^ 32 := (length_lzssDecode_le _ _).trans_lt s.blk.dstLen.isLt
  refine ⟨_, hexec, ?_, fun k hk => ?_, fun x hx => ?_⟩
  · rw [State.finish_blk_outLen]
    exact (BitVec.toNat_ofNat _ _).trans (Nat.mod_eq_of_lt hlen)
  · rw [State.finish_mem]
    exact Memory.read_writeBytes_same s.mem hwf _ _ k hk
  · rw [State.finish_mem]
    exact Memory.read_writeBytes_other s.mem _ _ x hx

end Sys2Proof.Machine
end

section
/-! PROOFS. The search of the LZSS encoder (spec/46_lzss_encode.md R297, R298): what a match length says of the
ring, and which candidate the search keeps. -/

namespace Sys2Proof.Machine

/-- R297: the bytes a match covers are equal. -/
theorem read_eq_of_lt_matchLength {t : Ring} {cap p r k : Nat} (hk : k < matchLength t cap p r) :
    t.read (p + k) = t.read (r + k) := by
  induction cap generalizing p r k with
  | zero => exact absurd hk (Nat.not_lt_zero k)
  | succ cap ih =>
    unfold matchLength at hk
    split at hk
    case isFalse => exact absurd hk (Nat.not_lt_zero k)
    case isTrue hfirst =>
      cases k with
      | zero => exact hfirst
      | succ k =>
        have hrest := ih (Nat.lt_of_succ_lt_succ hk)
        rwa [Nat.add_right_comm p, Nat.add_right_comm r] at hrest

/-- R298: `best` is the answer of the search over the entries `seen`. -/
structure Match.IsBest (t : Ring) (cap r : Nat) (seen : List IndexEntry) (best : Match) : Prop where
  longest : ∀ e ∈ seen, matchLength t cap e.pos r ≤ best.length
  attained : 1 ≤ best.length →
    ∃ e ∈ seen, e.pos = best.pos ∧ e.seq = best.seq ∧ matchLength t cap e.pos r = best.length
  earliest : 1 ≤ best.length → ∀ e ∈ seen, matchLength t cap e.pos r = best.length → best.seq ≤ e.seq

/-- R298: one more entry replaces the best one exactly where it is longer, or as long and inserted earlier. -/
theorem betterMatch_isBest {t : Ring} {cap r : Nat} {seen : List IndexEntry} {best : Match}
    (h : best.IsBest t cap r seen) (e : IndexEntry) :
    (betterMatch t cap r best e).IsBest t cap r (seen ++ [e]) := by
  obtain ⟨hlongest, hattained, hearliest⟩ := h
  unfold betterMatch
  dsimp only
  split
  case isTrue hbetter =>
    refine ⟨fun f hf => ?_, fun _ => ⟨e, by simp, rfl, rfl, rfl⟩, fun hpos f hf hlen => ?_⟩ <;> dsimp only at *
    · obtain hf | rfl := by simpa using hf
      · have := hlongest f hf
        omega
      · exact le_rfl
    · obtain hf | rfl := by simpa using hf
      · have hle := hlongest f hf
        obtain hlonger | ⟨hsame, hearlier⟩ := hbetter
        · omega
        · exact hearlier.le.trans (hearliest (by omega) f hf (by omega))
      · exact le_rfl
  case isFalse hworse =>
    refine ⟨fun f hf => ?_, fun hpos => ?_, fun hpos f hf hlen => ?_⟩
    · obtain hf | rfl := by simpa using hf
      · exact hlongest f hf
      · omega
    · obtain ⟨f, hf, hattains⟩ := hattained hpos
      exact ⟨f, List.mem_append_left _ hf, hattains⟩
    · obtain hf | rfl := by simpa using hf
      · exact hearliest hpos f hf hlen
      · omega

theorem foldl_betterMatch_isBest {t : Ring} {cap r : Nat} (rest : List IndexEntry) {seen : List IndexEntry}
    {best : Match} (h : best.IsBest t cap r seen) :
    (rest.foldl (betterMatch t cap r) best).IsBest t cap r (seen ++ rest) := by
  induction rest generalizing seen best with
  | nil => rwa [List.append_nil]
  | cons e rest ih =>
    have hnext := ih (betterMatch_isBest h e)
    rwa [List.append_assoc] at hnext

/-- R298: the search keeps the best of all entries. -/
theorem bestMatch_isBest (st : LzeScratch) :
    (bestMatch st).IsBest st.ring (min lzEncMax st.len) st.r st.index := by
  have hstart : Match.IsBest st.ring (min lzEncMax st.len) st.r [] { length := 0, pos := 0, seq := 0 } :=
    ⟨nofun, nofun, nofun⟩
  exact foldl_betterMatch_isBest st.index hstart

/-- Settles O33: the answer is best among all entries, and over no entry the fold keeps its start. -/
theorem searchFindsLongestEarliest : Obligations.SearchFindsLongestEarliest := by
  intro st l best
  obtain ⟨hlongest, hattained, hearliest⟩ := bestMatch_isBest st
  refine ⟨hlongest, fun hempty => ?_, fun hpos => ?_⟩
  · simp only [best, bestMatch, hempty, List.foldl_nil]
  · obtain ⟨e, he, hposition, hseq, hlength⟩ := hattained hpos
    exact ⟨e, he, hposition, hlength, fun f hf hlen => hseq.trans_le (hearliest hpos f hf hlen)⟩

end Sys2Proof.Machine
end

section
/-! PROOFS. The token stream of the LZSS engines (spec/30_encoding.md R109 to R112): a list of items, the bytes
they expand to, and the packets they are written in. -/

namespace Sys2Proof.Machine

/-! ### Items and what they expand to -/

/-- One item of a packet (R110, R111): a literal byte, or a back-reference to a ring position with a length. -/
inductive LzItem where
  | literal (c : Byte)
  | ref (p l : Nat)

/-- The ring after some decoded bytes: they stand from `0x3F0` on, over the initial fill (R261, R266). -/
def history (data : List Byte) : Ring :=
  ringFill Ring.initial dictStart data

/-- Decoded bytes after a copy from a ring position: each byte is read before it goes into the ring (R265). -/
def copyFrom : Nat → Nat → List Byte → List Byte
  | 0, _, data => data
  | l + 1, p, data => copyFrom l (p + 1) (data ++ [(history data).read p])

/-- Decoded bytes after one more item (R263, R265). -/
def LzItem.expand (data : List Byte) : LzItem → List Byte
  | .literal c => data ++ [c]
  | .ref p l => copyFrom l p data

/-- A back-reference that the encoder may emit: offset 0..1023 and length 3..16 (R290 (b)). -/
def LzItem.Legal : LzItem → Prop
  | .literal _ => True
  | .ref p l => p < dictN ∧ lzMin ≤ l ∧ l ≤ lzEncMax

theorem ringFill_concat (t : Ring) (p : Nat) (cs : List Byte) (c : Byte) :
    ringFill t p (cs ++ [c]) = (ringFill t p cs).write (p + cs.length) c := by
  induction cs generalizing t p with
  | nil => rfl
  | cons b cs ih =>
    rw [List.cons_append, ringFill, ih, List.length_cons, ← Nat.add_right_comm]
    rfl

theorem history_concat (data : List Byte) (c : Byte) :
    history (data ++ [c]) = (history data).write (dictStart + data.length) c :=
  ringFill_concat _ _ _ _

@[simp] theorem Ring.write_mod (t : Ring) (p : Nat) (v : Byte) : t.write (p % dictN) v = t.write p v := by
  simp [Ring.write]

@[simp] theorem length_copyFrom (l p : Nat) (data : List Byte) : (copyFrom l p data).length = data.length + l := by
  induction l generalizing p data with
  | zero => rfl
  | succ l ih =>
    rw [copyFrom, ih, List.length_append, List.length_singleton]
    omega

theorem LzItem.length_le_expand (data : List Byte) (item : LzItem) : data.length ≤ (item.expand data).length := by
  cases item <;> simp [LzItem.expand]

theorem length_le_foldl_expand (items : List LzItem) (data : List Byte) :
    data.length ≤ (items.foldl LzItem.expand data).length := by
  induction items generalizing data with
  | nil => exact le_rfl
  | cons item items ih => exact (LzItem.length_le_expand data item).trans (ih _)

/-! ### Items as bytes -/

/-- The bytes of an item in its packet (R110, R111). -/
def LzItem.bytes : LzItem → List Byte
  | .literal c => [c]
  | .ref p l => refBytes p l

/-- The command bit of an item (R109). -/
def LzItem.isLiteral : LzItem → Bool
  | .literal _ => true
  | .ref _ _ => false

/-- The command byte of a packet: bit `k` for its item `k`, and zeros behind the last one (R109, R112). -/
def commandByte (items : List LzItem) : Byte :=
  BitVec.ofFnLE fun k => items[k]?.any LzItem.isLiteral

/-- One packet of at most eight items (R109). -/
def packetBytes (items : List LzItem) : List Byte :=
  commandByte items :: items.flatMap LzItem.bytes

/-- Items as a packet sequence from the middle of a packet on, which has room for `left` items more. -/
def packFrom : Nat → List LzItem → List Byte
  | _, [] => []
  | 0, item :: items => commandByte ((item :: items).take 8) :: (item.bytes ++ packFrom 7 items)
  | left + 1, item :: items => item.bytes ++ packFrom left items

theorem commandByte_getLsbD (items : List LzItem) {k : Nat} (hk : k < 8) :
    (commandByte items).getLsbD k = items[k]?.any LzItem.isLiteral := by
  simp [commandByte, hk]

@[simp] theorem commandByte_nil : commandByte [] = 0#8 := by decide

theorem commandByte_cons_getLsbD_zero (item : LzItem) (items : List LzItem) :
    (commandByte (item :: items)).getLsbD 0 = item.isLiteral :=
  commandByte_getLsbD _ (by decide)

theorem commandByte_cons_shift (item : LzItem) {items : List LzItem} (h : items.length ≤ 7) :
    commandByte (item :: items) >>> 1 = commandByte items := by
  refine BitVec.eq_of_getLsbD_eq fun k hk => ?_
  rw [BitVec.getLsbD_ushiftRight, commandByte_getLsbD items hk]
  by_cases hlast : k = 7
  · subst hlast
    rw [List.getElem?_eq_none h, BitVec.getLsbD_of_ge _ _ (by decide)]
    rfl
  · rw [commandByte_getLsbD _ (by omega), Nat.add_comm, List.getElem?_cons_succ]

/-- R291: an appended item sets the mask's bit where it is a literal. -/
theorem commandByte_concat (items : List LzItem) (item : LzItem) (h : items.length < 8) :
    commandByte (items ++ [item]) =
      commandByte items ||| (if item.isLiteral then 1#8 <<< items.length else 0#8) := by
  refine BitVec.eq_of_getLsbD_eq fun k hk => ?_
  rw [BitVec.getLsbD_or, commandByte_getLsbD _ hk, commandByte_getLsbD _ hk]
  rcases Nat.lt_trichotomy k items.length with hlt | heq | hgt
  · have hbit : (1#8 <<< items.length).getLsbD k = false := by simp [hlt]
    rw [List.getElem?_append_left hlt]
    cases item.isLiteral <;> simp [hbit]
  · have hbit : (1#8 <<< items.length).getLsbD k = true := by simp [heq, h]
    rw [heq, List.getElem?_concat_length]
    cases hlit : item.isLiteral <;> simp [hlit, ← heq, hk]
  · have hbit : (1#8 <<< items.length).getLsbD k = false := by
      rw [BitVec.getLsbD_shiftLeft, BitVec.getLsbD_one, decide_eq_false (show k - items.length ≠ 0 by omega),
        Bool.and_false, Bool.and_false]
    rw [List.getElem?_eq_none (by simpa using hgt), List.getElem?_eq_none hgt.le]
    cases item.isLiteral <;> simp [hbit]

/-- A packet is closed after its last free place (R292), and the next item opens another one. -/
theorem packFrom_append {left : Nat} (items more : List LzItem) (h : items.length ≤ left) :
    packFrom left (items ++ more) = items.flatMap LzItem.bytes ++ packFrom (left - items.length) more := by
  induction items generalizing left with
  | nil => rfl
  | cons item items ih =>
    obtain ⟨left, rfl⟩ := Nat.exists_eq_succ_of_ne_zero (Nat.ne_zero_of_lt h)
    have htail := ih (Nat.le_of_succ_le_succ h)
    simp [packFrom, htail]

/-- A whole packet in front of the rest, or the last one. -/
theorem packFrom_zero_append {items : List LzItem} (more : List LzItem) (hne : items ≠ [])
    (h : items.length = 8 ∨ items.length < 8 ∧ more = []) :
    packFrom 0 (items ++ more) = packetBytes items ++ packFrom 0 more := by
  obtain ⟨item, items, rfl⟩ := List.exists_cons_of_ne_nil hne
  have hlen : items.length ≤ 7 := by
    simp only [List.length_cons] at h
    omega
  have htake : (item :: (items ++ more)).take 8 = item :: items := by
    rw [← List.cons_append]
    obtain hfull | ⟨hlast, rfl⟩ := h
    · rw [← hfull, List.take_left]
    · rw [List.append_nil, List.take_of_length_le hlast.le]
  have hnext : packFrom (7 - items.length) more = packFrom 0 more := by
    obtain hfull | ⟨-, rfl⟩ := h
    · rw [Nat.succ.inj hfull]
    · cases 7 - items.length <;> rfl
  rw [List.cons_append, packFrom, htake, packFrom_append items more hlen, hnext]
  simp [packetBytes]

/-! ### The bytes of a back-reference -/

/-- The nibbles of a back-reference's second byte (R111) do not meet. -/
theorem and_nibble_masks (h : Nat) {x : Nat} (hx : x < 16) :
    ((h &&& 0xF0) ||| x) &&& 0x0F = x ∧ ((h &&& 0xF0) ||| x) &&& 0xF0 = h &&& 0xF0 := by
  have hlow : x &&& 0x0F = x := Nat.and_two_pow_sub_one_of_lt_two_pow (n := 4) hx
  have hhigh : x &&& 0xF0 = 0 := by
    rw [← hlow, Nat.and_assoc, show 0x0F &&& 0xF0 = 0 by decide, Nat.and_zero]
  simp [Nat.and_or_distrib_right, Nat.and_assoc, hlow, hhigh]

theorem shiftLeft_and_highNibble (p : Nat) : ((p >>> 4) &&& 0xF0) <<< 4 = p &&& 0xF00 := by
  refine Nat.eq_of_testBit_eq fun k => ?_
  rw [show 0xF00 = 0xF0 <<< 4 by decide]
  simp only [Nat.testBit_shiftLeft, Nat.testBit_and, Nat.testBit_shiftRight]
  by_cases hk : 4 ≤ k
  · simp [hk]
  · simp [hk]

/-- R264 in natural numbers. -/
theorem refOffset_eq (b1 b2 : Byte) : refOffset b1 b2 = b1.toNat ||| (b2.toNat &&& 0xF0) <<< 4 := by
  have hwide (b : Byte) : b.toNat % 2 ^ 32 = b.toNat := Nat.mod_eq_of_lt (b.isLt.trans (by decide))
  have hfits : (b2.toNat &&& 0xF0) <<< 4 < 2 ^ 32 := by
    have : b2.toNat &&& 0xF0 ≤ 0xF0 := Nat.and_le_right
    rw [Nat.shiftLeft_eq]
    omega
  simp only [refOffset, BitVec.toNat_or, BitVec.toNat_shiftLeft, BitVec.toNat_and, BitVec.toNat_setWidth, hwide]
  rw [show (0xF0#32).toNat = 0xF0 by rfl, Nat.mod_eq_of_lt hfits]

/-- R111, R264: the two bytes of a back-reference carry its offset. -/
theorem refOffset_refBytes {p l : Nat} (hp : p < dictN) (hl : l ≤ lzEncMax) :
    refOffset (BitVec.ofNat 8 (p &&& 0xFF)) (BitVec.ofNat 8 (((p >>> 4) &&& 0xF0) ||| (l - lzMin))) = p := by
  have hnibble : l - lzMin < 16 := by
    simp only [lzEncMax, lzMin] at *
    omega
  have hfirst : p &&& 0xFF < 2 ^ 8 := Nat.and_lt_two_pow p (by decide)
  have hsecond : ((p >>> 4) &&& 0xF0) ||| (l - lzMin) < 2 ^ 8 :=
    Nat.or_lt_two_pow (Nat.and_lt_two_pow _ (by decide)) (hnibble.trans (by decide))
  have hp12 : p < 2 ^ 12 := hp.trans (by decide)
  rw [refOffset_eq, BitVec.toNat_ofNat, BitVec.toNat_ofNat, Nat.mod_eq_of_lt hfirst, Nat.mod_eq_of_lt hsecond,
    (and_nibble_masks _ hnibble).2, shiftLeft_and_highNibble, ← Nat.and_or_distrib_left]
  exact Nat.and_two_pow_sub_one_of_lt_two_pow hp12

/-- R111, R264: the second byte of a back-reference carries its length. -/
theorem refLength_refBytes (p : Nat) {l : Nat} (hmin : lzMin ≤ l) (hl : l ≤ lzEncMax) :
    refLength (BitVec.ofNat 8 (((p >>> 4) &&& 0xF0) ||| (l - lzMin))) = l := by
  have hnibble : l - lzMin < 16 := by
    simp only [lzEncMax, lzMin] at *
    omega
  have hbyte : BitVec.ofNat 8 (((p >>> 4) &&& 0xF0) ||| (l - lzMin)) &&& 0x0F#8 = BitVec.ofNat 8 (l - lzMin) := by
    rw [← BitVec.ofNat_and, (and_nibble_masks _ hnibble).1]
  rw [refLength, hbyte, BitVec.toNat_ofNat, Nat.mod_eq_of_lt (hnibble.trans (by decide))]
  exact Nat.sub_add_cancel hmin

/-- R111, R264: the decoder reads a legal back-reference as it was written. -/
theorem LzItem.Legal.exists_refBytes_eq {p l : Nat} (h : (LzItem.ref p l).Legal) :
    ∃ b1 b2, refBytes p l = [b1, b2] ∧ refOffset b1 b2 = p ∧ refLength b2 = l := by
  obtain ⟨hp, hmin, hmax⟩ := h
  exact ⟨_, _, rfl, refOffset_refBytes hp hmax, refLength_refBytes p hmin hmax⟩

end Sys2Proof.Machine
end

section
/-! PROOFS. The decoder on a packet sequence (spec/45_lzss_decode.md R262 to R268): it expands the items, and
the sequence is well formed (spec/46_lzss_encode.md R290 (b)). -/

namespace Sys2Proof.Machine

/-! ### Packets are well formed -/

theorem packetsWellFormed_commandByte (cmd x : Byte) (xs : List Byte) :
    packetsWellFormed cmd 0 (x :: xs) = packetsWellFormed x 8 xs := by
  conv_lhs => unfold packetsWellFormed
  exact if_pos rfl

theorem packetsWellFormed_literal {cmd : Byte} (hbit : cmd.getLsbD 0 = true) (left : Nat) (x : Byte)
    (xs : List Byte) :
    packetsWellFormed cmd (left + 1) (x :: xs) = packetsWellFormed (cmd >>> 1) left xs := by
  conv_lhs => unfold packetsWellFormed
  rw [if_neg left.succ_ne_zero, if_pos hbit, Nat.add_sub_cancel]

theorem packetsWellFormed_ref {cmd : Byte} (hbit : cmd.getLsbD 0 = false) (left : Nat) (x y : Byte)
    (ys : List Byte) :
    packetsWellFormed cmd (left + 1) (x :: y :: ys) =
      (decide (refOffset x y < dictN) && decide (refLength y ≤ lzEncMax) &&
        packetsWellFormed (cmd >>> 1) left ys) := by
  conv_lhs => unfold packetsWellFormed
  rw [if_neg left.succ_ne_zero, if_neg (by rw [hbit]; decide), Nat.add_sub_cancel]

/-- One legal item read from a packet with its command bit (R109 to R111). -/
theorem packetsWellFormed_item {item : LzItem} (hitem : item.Legal) {items : List LzItem} (hlen : items.length ≤ 7)
    (left : Nat) (tail : List Byte) :
    packetsWellFormed (commandByte (item :: items)) (left + 1) (item.bytes ++ tail) =
      packetsWellFormed (commandByte items) left tail := by
  have hbit := commandByte_cons_getLsbD_zero item items
  have hshift := commandByte_cons_shift item hlen
  cases item with
  | literal c => exact (packetsWellFormed_literal hbit left c tail).trans (by rw [hshift])
  | ref p l =>
    obtain ⟨b1, b2, hbytes, hoffset, hlength⟩ := hitem.exists_refBytes_eq
    obtain ⟨hp, -, hmax⟩ := hitem
    have htail : (LzItem.ref p l).bytes ++ tail = b1 :: b2 :: tail := congrArg (· ++ tail) hbytes
    rw [htail, packetsWellFormed_ref hbit, hshift, hoffset, hlength, decide_eq_true hp, decide_eq_true hmax,
      Bool.true_and, Bool.true_and]

/-- R290 (b): packets of legal items are well formed. -/
theorem packetsWellFormed_packFrom (items : List LzItem) (hlegal : ∀ item ∈ items, item.Legal) {left : Nat}
    (hleft : left ≤ 7) : packetsWellFormed (commandByte (items.take left)) left (packFrom left items) = true := by
  induction items generalizing left with
  | nil => simp [packFrom, packetsWellFormed, Nat.lt_succ_of_le hleft]
  | cons item items ih =>
    obtain ⟨hitem, hitems⟩ := List.forall_mem_cons.mp hlegal
    cases left with
    | zero =>
      rw [packFrom, packetsWellFormed_commandByte, List.take_succ_cons,
        packetsWellFormed_item hitem (List.length_take_le _ _)]
      exact ih hitems le_rfl
    | succ left =>
      rw [packFrom, List.take_succ_cons,
        packetsWellFormed_item hitem ((List.length_take_le _ _).trans (Nat.le_of_succ_le hleft))]
      exact ih hitems (Nat.le_of_succ_le hleft)

/-! ### One item of the decoder -/

/-- The decoder's scratch with `data` emitted and `rest` to read (R261, R266). -/
def lzdAfter (data : List Byte) (flags : BitVec 16) (rest : List Byte) : LzdScratch :=
  { ring := history data
    r := (dictStart + data.length) % dictN
    flags := flags
    rest := rest
    produced := data.length
    out := data.reverse }

theorem lzdStart_eq (input : List Byte) : lzdStart input = lzdAfter [] 0 input := rfl

/-- R266: below the expected size a byte is emitted. -/
theorem lzdEmit_lzdAfter {exp : Nat} {data : List Byte} (h : data.length < exp) (flags : BitVec 16)
    (rest : List Byte) (c : Byte) :
    lzdEmit exp (lzdAfter data flags rest) c = .ok (lzdAfter (data ++ [c]) flags rest) := by
  have hroom : (lzdAfter data flags rest).produced ≠ exp := h.ne
  rw [lzdEmit, if_neg hroom]
  simp only [lzdAfter, Ring.write_mod, history_concat, List.length_append, List.length_singleton,
    List.reverse_append, List.reverse_singleton, List.singleton_append, Nat.mod_add_mod, Nat.add_assoc]

/-- R265: a copy inside the expected size. -/
theorem lzdCopy_lzdAfter {exp : Nat} (l p : Nat) {data : List Byte} (h : data.length + l ≤ exp)
    (flags : BitVec 16) (rest : List Byte) :
    lzdCopy exp l p (lzdAfter data flags rest) = .ok (lzdAfter (copyFrom l p data) flags rest) := by
  induction l generalizing p data with
  | zero => rfl
  | succ l ih =>
    have hdata : data.length < exp := by omega
    have hroom : (data ++ [(history data).read p]).length + l ≤ exp := by
      rw [List.length_append, List.length_singleton]
      omega
    have hemit : lzdEmit exp (lzdAfter data flags rest) ((lzdAfter data flags rest).ring.read p) =
        .ok (lzdAfter (data ++ [(history data).read p]) flags rest) := lzdEmit_lzdAfter hdata flags rest _
    rw [lzdCopy, hemit]
    exact ih (p + 1) hroom

/-- R263 to R265: one item with its command bit in the command register. -/
theorem lzdItem_lzdAfter {exp : Nat} {item : LzItem} (hitem : item.Legal) {data : List Byte} {flags : BitVec 16}
    (hbit : flags.getLsbD 0 = item.isLiteral) (hroom : (item.expand data).length ≤ exp) (rest : List Byte) :
    lzdItem exp (lzdAfter data flags (item.bytes ++ rest)) = some (.ok (lzdAfter (item.expand data) flags rest)) := by
  unfold lzdItem
  cases item with
  | literal c =>
    have hdata : data.length < exp := by simpa [LzItem.expand] using hroom
    have hset : (lzdAfter data flags ((LzItem.literal c).bytes ++ rest)).flags.getLsbD 0 = true := hbit
    rw [if_pos hset]
    exact congrArg some (lzdEmit_lzdAfter hdata flags rest c)
  | ref p l =>
    obtain ⟨b1, b2, hbytes, hoffset, hlength⟩ := hitem.exists_refBytes_eq
    have hrest : (LzItem.ref p l).bytes ++ rest = b1 :: b2 :: rest := congrArg (· ++ rest) hbytes
    have hfits : data.length + l ≤ exp := by simpa [LzItem.expand] using hroom
    have hcopy := lzdCopy_lzdAfter l p hfits flags rest
    have hclear : ¬ (lzdAfter data flags (b1 :: b2 :: rest)).flags.getLsbD 0 = true := by
      simpa [lzdAfter, LzItem.isLiteral] using hbit
    rw [hrest, if_neg hclear]
    rw [← hoffset, ← hlength] at hcopy ⊢
    exact congrArg some hcopy

/-! ### The whole packet sequence -/

/-- R262: the command register holds a packet's next `left` command bits, lowest first, and the sentinel's ones
above bit 7 tell how many they are. -/
structure HoldsBits (flags : BitVec 16) (left : Nat) (cmd : Byte) : Prop where
  bits : ∀ k < left, flags.getLsbD k = cmd.getLsbD k
  sentinel : ∀ k, flags.getLsbD (8 + k) = decide (k < left)

theorem holdsBits_load (c : Byte) : HoldsBits (c.setWidth 16 ||| 0xFF00#16) 8 c := by
  have hlow : ∀ k < 8, (0xFF00#16).getLsbD k = false := by decide
  have hhigh : ∀ k < 8, (0xFF00#16).getLsbD (8 + k) = true := by decide
  refine ⟨fun k hk => ?_, fun k => ?_⟩
  · rw [BitVec.getLsbD_or, hlow k hk, Bool.or_false, BitVec.getLsbD_setWidth,
      decide_eq_true (hk.trans (by decide)), Bool.true_and]
  · by_cases hk : k < 8
    · rw [BitVec.getLsbD_or, hhigh k hk, Bool.or_true, decide_eq_true hk]
    · rw [BitVec.getLsbD_of_ge _ _ (by omega), decide_eq_false hk]

theorem HoldsBits.shift {flags : BitVec 16} {left : Nat} {cmd : Byte} (h : HoldsBits flags (left + 1) cmd) :
    HoldsBits (flags >>> 1) left (cmd >>> 1) := by
  obtain ⟨hbits, hsentinel⟩ := h
  refine ⟨fun k hk => ?_, fun k => ?_⟩
  · rw [BitVec.getLsbD_ushiftRight, BitVec.getLsbD_ushiftRight]
    exact hbits (1 + k) (by omega)
  · rw [BitVec.getLsbD_ushiftRight, Nat.add_left_comm, hsentinel (1 + k)]
    simp [Nat.add_comm 1 k]

/-- R262: inside a packet the command register is shifted to the next item's bit. -/
theorem lzdNextFlags_of_left {flags : BitVec 16} {left : Nat} {cmd : Byte}
    (h : HoldsBits (flags >>> 1) (left + 1) cmd) (data rest : List Byte) :
    lzdNextFlags (lzdAfter data flags rest) = some (lzdAfter data (flags >>> 1) rest) :=
  if_pos ((h.sentinel 0).trans (decide_eq_true left.succ_pos))

/-- R262: behind a packet the next input byte is loaded. -/
theorem lzdNextFlags_of_none_left {flags : BitVec 16} {cmd : Byte} (h : HoldsBits (flags >>> 1) 0 cmd)
    (data : List Byte) (c : Byte) (rest : List Byte) :
    lzdNextFlags (lzdAfter data flags (c :: rest)) = some (lzdAfter data (c.setWidth 16 ||| 0xFF00#16) rest) :=
  if_neg (by rw [show (lzdAfter data flags (c :: rest)).flags = flags from rfl, h.sentinel 0]; decide)

/-- R267: an item needs input. -/
theorem lzdItem_lzdAfter_nil (exp : Nat) (data : List Byte) (flags : BitVec 16) :
    lzdItem exp (lzdAfter data flags []) = none := by
  unfold lzdItem
  split <;> rfl

/-- R267: where the input ends before an item, the decode is over. -/
theorem lzdLoop_lzdAfter_nil (exp n : Nat) (data : List Byte) (flags : BitVec 16) :
    ∃ flags', lzdLoop exp n (lzdAfter data flags []) = .ok (lzdAfter data flags' []) := by
  cases n with
  | zero => exact ⟨flags, rfl⟩
  | succ n =>
    have hnext : lzdNextFlags (lzdAfter data flags []) = some (lzdAfter data (flags >>> 1) []) ∨
        lzdNextFlags (lzdAfter data flags []) = none := by
      unfold lzdNextFlags
      split
      · exact .inl rfl
      · exact .inr rfl
    unfold lzdLoop
    obtain hnext | hnext := hnext <;> rw [hnext]
    · dsimp only
      rw [lzdItem_lzdAfter_nil]
      exact ⟨_, rfl⟩
    · exact ⟨_, rfl⟩

/-- One turn of the decoder's loop, once the command register is at the item's bit. -/
theorem lzdLoop_item {exp : Nat} {st : LzdScratch} {item : LzItem} (hitem : item.Legal) {items : List LzItem}
    {data tail : List Byte} {flags : BitVec 16} {left : Nat}
    (hflags : HoldsBits flags (left + 1) (commandByte (item :: items)))
    (hnext : lzdNextFlags st = some (lzdAfter data flags (item.bytes ++ tail)))
    (hroom : (item.expand data).length ≤ exp) (n : Nat) :
    lzdLoop exp (n + 1) st = lzdLoop exp n (lzdAfter (item.expand data) flags tail) := by
  have hbit : flags.getLsbD 0 = item.isLiteral :=
    (hflags.bits 0 left.succ_pos).trans (commandByte_cons_getLsbD_zero item items)
  simp only [lzdLoop, hnext, lzdItem_lzdAfter hitem hbit hroom]

theorem LzItem.length_bytes_pos (item : LzItem) : 0 < item.bytes.length := by
  cases item <;> exact Nat.succ_pos _

/-- The decoder goes through the packets item by item; their number of bytes is fuel enough. -/
theorem lzdLoop_packFrom {exp n : Nat} (items : List LzItem) (hlegal : ∀ item ∈ items, item.Legal) {left : Nat}
    (hleft : left ≤ 7) {data : List Byte} (hroom : (items.foldl LzItem.expand data).length ≤ exp)
    {flags : BitVec 16} (hflags : HoldsBits (flags >>> 1) left (commandByte (items.take left)))
    (hfuel : (packFrom left items).length ≤ n) :
    ∃ flags', lzdLoop exp n (lzdAfter data flags (packFrom left items)) =
      .ok (lzdAfter (items.foldl LzItem.expand data) flags' []) := by
  induction items generalizing left n data flags with
  | nil =>
    rw [packFrom]
    exact lzdLoop_lzdAfter_nil exp n data flags
  | cons item items ih =>
    obtain ⟨hitem, hitems⟩ := List.forall_mem_cons.mp hlegal
    have hitemroom : (item.expand data).length ≤ exp := (length_le_foldl_expand items _).trans hroom
    have hbytes := item.length_bytes_pos
    cases left with
    | zero =>
      simp only [packFrom, List.length_cons, List.length_append] at hfuel ⊢
      obtain ⟨n, rfl⟩ := Nat.exists_eq_succ_of_ne_zero (show n ≠ 0 by omega)
      have hload := holdsBits_load (commandByte ((item :: items).take 8))
      rw [lzdLoop_item hitem hload (lzdNextFlags_of_none_left hflags _ _ _) hitemroom]
      have hshift := hload.shift
      rw [List.take_succ_cons, commandByte_cons_shift item (List.length_take_le _ _)] at hshift
      exact ih hitems le_rfl hroom hshift (by omega)
    | succ left =>
      simp only [packFrom, List.length_append] at hfuel ⊢
      obtain ⟨n, rfl⟩ := Nat.exists_eq_succ_of_ne_zero (show n ≠ 0 by omega)
      have hlen : (items.take left).length ≤ 7 := (List.length_take_le _ _).trans (Nat.le_of_succ_le hleft)
      rw [List.take_succ_cons] at hflags
      rw [lzdLoop_item hitem hflags (lzdNextFlags_of_left hflags _ _) hitemroom]
      have hshift := hflags.shift
      rw [commandByte_cons_shift item hlen] at hshift
      exact ih hitems (Nat.le_of_succ_le hleft) hroom hshift (by omega)

/-- R260: decoding a packet sequence with the size of its expansion gives the expansion. -/
theorem lzssDecode_packFrom {items : List LzItem} (hlegal : ∀ item ∈ items, item.Legal) {data : List Byte}
    (hdata : items.foldl LzItem.expand [] = data) :
    lzssDecode (packFrom 0 items) data.length = { bytes := data, code := .none } := by
  have hflags : HoldsBits ((0 : BitVec 16) >>> 1) 0 (commandByte (items.take 0)) :=
    ⟨nofun, fun k => by simp⟩
  obtain ⟨flags, hloop⟩ :=
    lzdLoop_packFrom (exp := data.length) items hlegal (Nat.zero_le 7) (by rw [hdata]) hflags le_rfl
  rw [lzssDecode, lzdStart_eq, hloop, hdata]
  simp [lzdAfter]

end Sys2Proof.Machine
end

section
/-! PROOFS. The reference encoder (spec/46_lzss_encode.md R291 to R302): its packets hold a list of items, which
expands to the input coded so far. -/

namespace Sys2Proof.Machine

/-! ### The packet builder -/

/-- R291, R292: the flushed packets and the one being built hold these items, in order. -/
def LzeScratch.Holds (items : List LzItem) (st : LzeScratch) : Prop :=
  ∃ flushed opened, items = flushed ++ opened ∧ opened.length < 8 ∧ st.mask = 1#8 <<< opened.length ∧
    st.pkt = packetBytes opened ∧ ∀ more, packFrom 0 (flushed ++ more) = st.out ++ packFrom 0 more

theorem LzeScratch.Holds.congr {items : List LzItem} {st st' : LzeScratch} (h : st.Holds items)
    (hsame : st.SamePackets st') : st'.Holds items := by
  obtain ⟨hpkt, hmask, hout⟩ := hsame
  unfold LzeScratch.Holds
  rw [hpkt, hmask, hout]
  exact h

/-- R291: an appended literal sets its command bit and adds its byte. -/
theorem packetBytes_concat_literal (items : List LzItem) (h : items.length < 8) (c : Byte) :
    packetBytes (items ++ [.literal c]) =
      (packetBytes items).modifyHead (· ||| 1#8 <<< items.length) ++ [c] := by
  rw [packetBytes, commandByte_concat items _ h]
  simp [packetBytes, LzItem.bytes, LzItem.isLiteral]

/-- R291: an appended back-reference leaves its command bit 0 and adds its two bytes. -/
theorem packetBytes_concat_ref (items : List LzItem) (h : items.length < 8) (p l : Nat) :
    packetBytes (items ++ [.ref p l]) = packetBytes items ++ refBytes p l := by
  rw [packetBytes, commandByte_concat items _ h]
  simp [packetBytes, LzItem.bytes, LzItem.isLiteral]

/-- R291, R292: the packet being built takes one item more, and is flushed if that is the eighth. -/
theorem lzeItemDone_holds {items : List LzItem} {st : LzeScratch} (h : st.Holds items) (item : LzItem)
    {pkt : List Byte}
    (hpkt : ∀ opened : List LzItem, opened.length < 8 → st.mask = 1#8 <<< opened.length →
      st.pkt = packetBytes opened → pkt = packetBytes (opened ++ [item])) :
    (lzeItemDone { st with pkt := pkt }).Holds (items ++ [item]) := by
  obtain ⟨flushed, opened, rfl, hlen, hmask, hopen, hflushed⟩ := h
  have hpkt := hpkt opened hlen hmask hopen
  have hshift : st.mask <<< 1 = 1#8 <<< (opened.length + 1) := by rw [hmask, BitVec.shiftLeft_add]
  by_cases hlast : opened.length = 7
  · have hzero : st.mask <<< 1 = 0#8 := by rw [hshift, hlast]; decide
    have hdone : lzeItemDone { st with pkt := pkt } =
        lzeFlush { st with pkt := pkt, mask := st.mask <<< 1 } := if_pos hzero
    rw [hdone]
    refine ⟨flushed ++ opened ++ [item], [], (List.append_nil _).symm, by decide, rfl, rfl, fun more => ?_⟩
    have hfull : (opened ++ [item]).length = 8 := by simp [hlast]
    rw [List.append_assoc flushed, List.append_assoc, hflushed,
      packFrom_zero_append more (List.concat_ne_nil _ _) (.inl hfull), ← hpkt, ← List.append_assoc]
    rfl
  · have hne : ∀ k < 8, (1#8 <<< k : Byte) ≠ 0#8 := by decide
    have hdone : lzeItemDone { st with pkt := pkt } = { st with pkt := pkt, mask := st.mask <<< 1 } :=
      if_neg (hshift ▸ hne (opened.length + 1) (by omega))
    rw [hdone]
    refine ⟨flushed, opened ++ [item], List.append_assoc _ _ _, ?_, ?_, hpkt, hflushed⟩
    · rw [List.length_append, List.length_singleton]
      omega
    · rw [List.length_append, List.length_singleton]
      exact hshift

theorem appendLiteral_holds {items : List LzItem} {st : LzeScratch} (h : st.Holds items) (c : Byte) :
    (appendLiteral st c).Holds (items ++ [.literal c]) :=
  lzeItemDone_holds h _ fun opened hlen hmask hpkt => by rw [packetBytes_concat_literal opened hlen, hmask, hpkt]

theorem appendRef_holds {items : List LzItem} {st : LzeScratch} (h : st.Holds items) (p l : Nat) :
    (appendRef st p l).Holds (items ++ [.ref p l]) :=
  lzeItemDone_holds h _ fun opened hlen _ hpkt => by rw [packetBytes_concat_ref opened hlen, hpkt]

/-- R293: after the drain the output is the packet sequence of all items. -/
theorem lzeDrain_out {items : List LzItem} {st : LzeScratch} (h : st.Holds items) :
    (lzeDrain st).out = packFrom 0 items := by
  obtain ⟨flushed, opened, rfl, hlen, -, hpkt, hflushed⟩ := h
  rw [hflushed, lzeDrain]
  cases opened with
  | nil =>
    rw [if_neg (by rw [hpkt]; decide), packFrom, List.append_nil]
  | cons item opened =>
    have hbytes := item.length_bytes_pos
    have hitem : 1 < st.pkt.length := by
      simp only [hpkt, packetBytes, List.flatMap_cons, List.length_cons, List.length_append]
      omega
    have hlast := packFrom_zero_append [] (List.cons_ne_nil item opened) (.inr ⟨hlen, rfl⟩)
    rw [List.append_nil] at hlast
    rw [if_pos hitem, hlast, packFrom, List.append_nil, ← hpkt]
    rfl

/-! ### The ring as a history of the input -/

theorem history_take_succ {input : List Byte} {n : Nat} (h : n < input.length) :
    history (input.take (n + 1)) = (history (input.take n)).write (dictStart + n) input[n] := by
  have htake : input.take (n + 1) = input.take n ++ [input[n]] := (List.take_append_getElem h).symm
  rw [htake, history_concat, List.length_take_of_le h.le]

/-- A longer history reads the same wherever its additional bytes do not stand. -/
theorem read_history_take {input : List Byte} {a b q : Nat} (hab : a ≤ b) (hb : b ≤ input.length)
    (hq : ∀ m, a ≤ m → m < b → q % dictN ≠ (dictStart + m) % dictN) :
    (history (input.take b)).read q = (history (input.take a)).read q := by
  induction b, hab using Nat.le_induction with
  | base => rfl
  | succ b hab ih =>
    rw [history_take_succ hb, Ring.read_write, if_neg (hq b hab b.lt_succ_self)]
    exact ih (Nat.le_of_succ_le hb) fun m ham hmb => hq m ham (Nat.lt_succ_of_lt hmb)

/-- The last `DICT_N` bytes of a history stand in the ring. -/
theorem read_history_take_recent {input : List Byte} {m b : Nat} (hmb : m < b) (hb : b ≤ input.length)
    (hrecent : b ≤ m + dictN) :
    (history (input.take b)).read (dictStart + m) = input[m] := by
  rw [read_history_take (a := m + 1) hmb hb, history_take_succ (hmb.trans_le hb), Ring.read_write, if_pos rfl]
  intro k hk hkb
  simp only [dictN] at *
  omega

/-- R265: a copy that reads the input's next bytes one by one expands to them. -/
theorem copyFrom_take {input : List Byte} (l p : Nat) {n : Nat} (hn : n + l ≤ input.length)
    (hread : ∀ k, (hk : k < l) → (history (input.take (n + k))).read (p + k) = input[n + k]) :
    copyFrom l p (input.take n) = input.take (n + l) := by
  induction l generalizing p n with
  | zero => rfl
  | succ l ih =>
    have hlt : n < input.length := by omega
    have hfirst : (history (input.take n)).read p = input[n] := hread 0 l.succ_pos
    rw [copyFrom, hfirst, List.take_append_getElem hlt, ih (p + 1) (by omega) fun k hk => ?_]
    · rw [Nat.add_right_comm, Nat.add_assoc]
    · have hnext := hread (k + 1) (Nat.succ_lt_succ hk)
      have hn1 : n + 1 + k = n + (k + 1) := by omega
      have hp1 : p + 1 + k = p + (k + 1) := by omega
      simp only [hn1, hp1]
      exact hnext

/-! ### The window: cursors, ring and index -/

/-- R294, R300, R301: the scratch with `n` bytes of the input coded. The ring is the history of the coded bytes
and the lookahead; no position of the index is one of the `LZ_LOOKAHEAD` from `r` on, leaving out the first `own` of
these. -/
structure LzeScratch.Window (input : List Byte) (n own : Nat) (st : LzeScratch) : Prop where
  r_eq : st.r = (dictStart + n) % dictN
  s_eq : st.s = (dictStart + n + lzLookahead) % dictN
  len_eq : st.len = min lzLookahead (input.length - n)
  rest_eq : st.rest = input.drop (n + st.len)
  ring_eq : st.ring = history (input.take (n + st.len))
  index_behind : ∀ e ∈ st.index, e.pos < dictN ∧
    ∀ m, own ≤ m → m < lzLookahead → e.pos ≠ (dictStart + n + m) % dictN

theorem lzeStart_window (input : List Byte) : (lzeStart input).Window input 0 0 := by
  have htake : input.take lzLookahead = input.take (0 + min lzLookahead input.length) := by
    rw [Nat.zero_add, ← List.take_eq_take_min]
  have hdrop : input.drop lzLookahead = input.drop (0 + min lzLookahead input.length) := by
    rw [Nat.zero_add]
    by_cases hle : lzLookahead ≤ input.length
    · rw [Nat.min_eq_left hle]
    · rw [Nat.min_eq_right (by omega), List.drop_length, List.drop_of_length_le (by omega)]
  exact ⟨rfl, rfl, rfl, hdrop, congrArg history htake, nofun⟩

/-- R295: a position behind the lookahead goes into the index. -/
theorem lzeInsert_window {input : List Byte} {n own : Nat} {st : LzeScratch} (h : st.Window input n own) {p : Nat}
    (hp : p < dictN) (hbehind : ∀ m, own ≤ m → m < lzLookahead → p ≠ (dictStart + n + m) % dictN) :
    (lzeInsert st p).Window input n own := by
  refine ⟨h.r_eq, h.s_eq, h.len_eq, h.rest_eq, h.ring_eq, fun e he => ?_⟩
  rcases List.mem_cons.mp he with rfl | he
  · exact ⟨hp, hbehind⟩
  · exact h.index_behind e (List.mem_of_mem_filter he)

theorem LzeScratch.Window.own_le {input : List Byte} {n own own' : Nat} {st : LzeScratch}
    (h : st.Window input n own) (hle : own ≤ own') : st.Window input n own' :=
  ⟨h.r_eq, h.s_eq, h.len_eq, h.rest_eq, h.ring_eq, fun e he =>
    ⟨(h.index_behind e he).1, fun m hm => (h.index_behind e he).2 m (hle.trans hm)⟩⟩

/-- R299, R301: the position at `r` goes into the index. -/
theorem lzeInsert_r_window {input : List Byte} {n own : Nat} {st : LzeScratch} (h : st.Window input n own)
    (hown : own ≤ 1) : (lzeInsert st st.r).Window input n 1 := by
  have hr := h.r_eq
  refine lzeInsert_window (h.own_le hown) ?_ fun m hm hmax => ?_
  · rw [hr]
    exact Nat.mod_lt _ (by decide)
  · rw [hr]
    simp only [dictN, lzLookahead] at *
    omega

/-- R295: priming keeps clear of the lookahead. -/
theorem lzePrime_window {input : List Byte} {st : LzeScratch} (h : st.Window input 0 0) :
    (lzePrime st).Window input 0 0 := by
  unfold lzePrime
  refine List.foldlRecOn _ _ (motive := fun st' : LzeScratch => st'.Window input 0 0) h fun st' hst' i hi => ?_
  have hi : i < lzPrime := List.mem_range.mp hi
  refine lzeInsert_window hst' (Nat.mod_lt _ (by decide)) fun m _ hm => ?_
  simp only [dictN, dictStart, lzLookahead, lzPrime] at *
  omega

/-- Either append leaves the window alone (R291). -/
theorem lzeItemDone_window {input : List Byte} {n own : Nat} {st : LzeScratch} (h : st.Window input n own)
    (pkt : List Byte) : (lzeItemDone { st with pkt := pkt }).Window input n own := by
  unfold lzeItemDone
  dsimp only
  split <;> exact ⟨h.r_eq, h.s_eq, h.len_eq, h.rest_eq, h.ring_eq, h.index_behind⟩

/-! ### The advance -/

/-- One turn of the advance, up to the insertion of the new `r` (R300). -/
def lzeShift (st : LzeScratch) : LzeScratch :=
  let st := lzeRefill (lzeDelete st st.s)
  { st with s := (st.s + 1) % dictN, r := (st.r + 1) % dictN }

theorem lzeAdvance_succ (k : Nat) (st : LzeScratch) :
    lzeAdvance (k + 1) st =
      lzeAdvance k
        (if k ≠ 0 ∧ 0 < (lzeShift st).len then lzeInsert (lzeShift st) (lzeShift st).r else lzeShift st) := rfl

/-- The position `s`, the next one of the lookahead, is no entry once it is deleted (R300). -/
theorem index_behind_lzeDelete {input : List Byte} {n : Nat} {st : LzeScratch} (h : st.Window input n 1) :
    ∀ e ∈ (lzeDelete st st.s).index, e.pos < dictN ∧
      ∀ m, 0 ≤ m → m < lzLookahead → e.pos ≠ (dictStart + (n + 1) + m) % dictN := by
  intro e he
  obtain ⟨he, hs⟩ := List.mem_filter.mp he
  obtain ⟨hpos, hbehind⟩ := h.index_behind e he
  refine ⟨hpos, fun m _ hm => ?_⟩
  rw [← Nat.add_assoc dictStart, Nat.add_assoc _ 1, Nat.add_comm 1]
  by_cases hlast : m + 1 = lzLookahead
  · rw [hlast, ← h.s_eq]
    simpa using hs
  · exact hbehind (m + 1) m.succ_pos (by omega)

/-- R300: a turn of the advance moves the window on by one byte. -/
theorem lzeShift_window {input : List Byte} {n : Nat} {st : LzeScratch} (h : st.Window input n 1)
    (hn : n < input.length) : (lzeShift st).Window input (n + 1) 0 := by
  have hbehind := index_behind_lzeDelete h
  obtain ⟨hr, hs, hlen, hrest, hring, -⟩ := h
  have hr' : (st.r + 1) % dictN = (dictStart + (n + 1)) % dictN := by
    rw [hr, Nat.mod_add_mod, Nat.add_assoc]
  have hs' : (st.s + 1) % dictN = (dictStart + (n + 1) + lzLookahead) % dictN := by
    rw [hs, Nat.mod_add_mod, ← Nat.add_assoc, Nat.add_right_comm]
  unfold lzeShift lzeRefill
  split
  case h_1 c rest hcons =>
    have hcons : input.drop (n + st.len) = c :: rest := hrest.symm.trans hcons
    have hmore : n + st.len < input.length := by
      by_contra hend
      rw [List.drop_of_length_le (by omega)] at hcons
      cases hcons
    have hfull : st.len = lzLookahead := by omega
    obtain ⟨hc, hrest'⟩ := List.cons.inj ((List.drop_eq_getElem_cons hmore).symm.trans hcons)
    have hsucc : n + 1 + st.len = n + st.len + 1 := Nat.add_right_comm _ _ _
    refine ⟨hr', hs', ?_, ?_, ?_, hbehind⟩
    · exact (show st.len = _ by omega)
    · exact (show rest = input.drop (n + 1 + st.len) by rw [hsucc, hrest'])
    · refine (show st.ring.write st.s c = history (input.take (n + 1 + st.len)) from ?_)
      rw [hsucc, history_take_succ hmore, hc, hs, Ring.write_mod, hring, hfull, Nat.add_assoc]
  case h_2 hnil =>
    have hnil : input.drop (n + st.len) = [] := hrest.symm.trans hnil
    have hend : input.length ≤ n + st.len := List.drop_eq_nil_iff.mp hnil
    have hpos : 0 < st.len := by
      simp only [lzLookahead] at hlen
      omega
    have hsame : n + 1 + (st.len - 1) = n + st.len := by omega
    refine ⟨hr', hs', ?_, ?_, ?_, hbehind⟩
    · exact (show st.len - 1 = _ by omega)
    · exact (show st.rest = input.drop (n + 1 + (st.len - 1)) by rw [hsame, hrest])
    · exact (show st.ring = history (input.take (n + 1 + (st.len - 1))) by rw [hsame, hring])

/-- R300, R301: the advance past the bytes of one item. -/
theorem lzeAdvance_window {input : List Byte} (k : Nat) {n : Nat} {st : LzeScratch} (h : st.Window input n 1)
    (hk : n + k < input.length) : (lzeAdvance (k + 1) st).Window input (n + (k + 1)) 0 := by
  induction k generalizing n st with
  | zero =>
    rw [lzeAdvance_succ, if_neg (fun hne => hne.1 rfl)]
    exact lzeShift_window h hk
  | succ k ih =>
    have hshift := lzeShift_window h (show n < input.length by omega)
    have hnext : (if k + 1 ≠ 0 ∧ 0 < (lzeShift st).len then lzeInsert (lzeShift st) (lzeShift st).r
        else lzeShift st).Window input (n + 1) 1 := by
      split
      · exact lzeInsert_r_window hshift (Nat.zero_le 1)
      · exact hshift.own_le (Nat.zero_le 1)
    rw [lzeAdvance_succ, Nat.add_comm (k + 1) 1, ← Nat.add_assoc n 1]
    exact ih hnext (by omega)

/-! ### What a match copies -/

theorem LzeScratch.Window.add_len_le {input : List Byte} {n own : Nat} {st : LzeScratch}
    (h : st.Window input n own) (hn : n ≤ input.length) : n + st.len ≤ input.length := by
  have hlen := h.len_eq
  omega

/-- The lookahead stands in the ring from `r` on (R294). -/
theorem LzeScratch.Window.read_lookahead {input : List Byte} {n own k : Nat} {st : LzeScratch}
    (h : st.Window input n own) (hk : k < st.len) (hn : n + k < input.length) :
    st.ring.read (st.r + k) = input[n + k] := by
  have hfits := h.add_len_le (show n ≤ input.length by omega)
  have hrecent : n + st.len ≤ n + k + dictN := by
    have hlen := h.len_eq
    simp only [lzLookahead, dictN] at *
    omega
  rw [h.r_eq, ← Ring.read_mod, Nat.mod_add_mod, Ring.read_mod, h.ring_eq, Nat.add_assoc,
    read_history_take_recent (Nat.add_lt_add_left hk n) hfits hrecent]

/-- R297, R265: a match of an entry copies the input's next bytes, also where it runs into the lookahead: what the
encoder's ring holds ahead of the decoder's is not read before the copy has written it. -/
theorem LzeScratch.Window.copyFrom_match {input : List Byte} {n : Nat} {st : LzeScratch}
    (h : st.Window input n 0) {e : IndexEntry} (he : e ∈ st.index) (hn : n < input.length) {cap l : Nat}
    (hl : matchLength st.ring cap e.pos st.r = l) (hle : l ≤ st.len) :
    copyFrom l e.pos (input.take n) = input.take (n + l) := by
  have hfits := h.add_len_le hn.le
  obtain ⟨hpos, hbehind⟩ := h.index_behind e he
  refine copyFrom_take l e.pos (by omega) fun k hk => ?_
  have hunread : ∀ m, n + k ≤ m → m < n + st.len → (e.pos + k) % dictN ≠ (dictStart + m) % dictN := by
    intro m hm hmlen
    have hlen := h.len_eq
    have hne := hbehind (m - n - k) (Nat.zero_le _) (by omega)
    simp only [dictN, dictStart] at *
    omega
  calc (history (input.take (n + k))).read (e.pos + k)
      = (history (input.take (n + st.len))).read (e.pos + k) := (read_history_take (by omega) hfits hunread).symm
    _ = st.ring.read (st.r + k) := by rw [← h.ring_eq, read_eq_of_lt_matchLength (hl ▸ hk)]
    _ = input[n + k] := h.read_lookahead (hk.trans_le hle) (by omega)

/-- R298, R299: the back-reference for the search's answer is legal and expands to the input's next bytes. -/
theorem LzeScratch.Window.bestMatch_ref {input : List Byte} {n : Nat} {st : LzeScratch} (h : st.Window input n 0)
    (hn : n < input.length) (hmin : lzMin ≤ (bestMatch st).length) :
    (LzItem.ref (bestMatch st).pos (bestMatch st).length).Legal ∧
      copyFrom (bestMatch st).length (bestMatch st).pos (input.take n) =
        input.take (n + (bestMatch st).length) := by
  obtain ⟨e, he, hposition, -, hlength⟩ := (bestMatch_isBest st).attained ((show 1 ≤ lzMin by decide).trans hmin)
  have hmax : (bestMatch st).length ≤ lzEncMax := by
    rw [← hlength]
    exact (matchLength_le _ _ _ _).trans (Nat.min_le_left _ _)
  rw [← hposition]
  exact ⟨⟨(h.index_behind e he).1, hmin, hmax⟩, h.copyFrom_match he hn hlength (bestMatch_length_le st)⟩

/-! ### The loop -/

/-- The scratch with `n` bytes of the input coded, as the items that its packets hold. -/
structure LzeScratch.Coded (input : List Byte) (n : Nat) (items : List LzItem) (st : LzeScratch) : Prop where
  le_length : n ≤ input.length
  window : st.Window input n 0
  holds : st.Holds items
  legal : ∀ item ∈ items, item.Legal
  expands : items.foldl LzItem.expand [] = input.take n

theorem LzeScratch.Coded.len_pos_iff {input : List Byte} {n : Nat} {items : List LzItem} {st : LzeScratch}
    (h : st.Coded input n items) : 0 < st.len ↔ n < input.length := by
  rw [h.window.len_eq, lt_min_iff, Nat.sub_pos_iff_lt]
  exact and_iff_right (by decide)

/-- R299, R300: the item for the next `k + 1` bytes is appended, and the cursors advance past them. -/
theorem LzeScratch.Coded.advance {input : List Byte} {n : Nat} {items : List LzItem} {st st' : LzeScratch}
    (h : st.Coded input n items) {k : Nat} (hk : n + k < input.length) {item : LzItem} (hitem : item.Legal)
    (hexpand : item.expand (input.take n) = input.take (n + (k + 1))) (hwindow : st'.Window input n 1)
    (hholds : st'.Holds (items ++ [item])) :
    (lzeAdvance (k + 1) st').Coded input (n + (k + 1)) (items ++ [item]) := by
  refine ⟨hk, lzeAdvance_window k hwindow hk, hholds.congr (lzeAdvance_spec _ _).1, fun i hi => ?_, ?_⟩
  · rcases List.mem_append.mp hi with hi | hi
    · exact h.legal i hi
    · obtain rfl := List.mem_singleton.mp hi
      exact hitem
  · rw [List.foldl_concat, h.expands, hexpand]

/-- R299, R300: a turn of the loop codes at least one byte more. -/
theorem lzeTurn_coded {input : List Byte} {n : Nat} {items : List LzItem} {st : LzeScratch}
    (h : st.Coded input n items) (hn : n < input.length) :
    ∃ n' items', n < n' ∧ (lzeTurn st).Coded input n' items' := by
  have hinserted := lzeInsert_r_window h.window (Nat.zero_le 1)
  have hholds := h.holds.congr (lzeInsert_samePackets st st.r)
  unfold lzeTurn
  dsimp only
  split
  case isTrue =>
    have hread : st.ring.read st.r = input[n] := h.window.read_lookahead (h.len_pos_iff.mpr hn) hn
    have hexpand : (LzItem.literal (st.ring.read st.r)).expand (input.take n) = input.take (n + (0 + 1)) := by
      rw [LzItem.expand, hread, List.take_append_getElem hn]
    have hlegal : (LzItem.literal (st.ring.read st.r)).Legal := trivial
    exact ⟨_, _, Nat.lt_add_of_pos_right Nat.one_pos,
      h.advance hn hlegal hexpand (lzeItemDone_window hinserted _) (appendLiteral_holds hholds _)⟩
  case isFalse hlong =>
    obtain ⟨hlegal, hcopy⟩ := h.window.bestMatch_ref hn (Nat.not_lt.mp hlong)
    have hle := bestMatch_length_le st
    have hfits := h.window.add_len_le h.le_length
    obtain ⟨k, hk⟩ := Nat.exists_eq_succ_of_ne_zero (show (bestMatch st).length ≠ 0 by
      intro hzero
      exact hlong (hzero ▸ by decide))
    rw [hk] at hlegal hcopy hle ⊢
    exact ⟨_, _, Nat.lt_add_of_pos_right k.succ_pos,
      h.advance (by omega) hlegal hcopy (lzeItemDone_window hinserted _) (appendRef_holds hholds _ _)⟩

/-- R302: the loop codes the whole input. -/
theorem lzeLoop_coded {input : List Byte} (turns : Nat) {n : Nat} {items : List LzItem} {st : LzeScratch}
    (h : st.Coded input n items) (hturns : input.length ≤ n + turns) :
    ∃ items', (lzeLoop turns st).Coded input input.length items' := by
  induction turns generalizing n items st with
  | zero =>
    obtain rfl : n = input.length := Nat.le_antisymm h.le_length hturns
    exact ⟨items, h⟩
  | succ turns ih =>
    unfold lzeLoop
    split
    case isTrue hlen =>
      obtain ⟨n', items', hlt, hturn⟩ := lzeTurn_coded h (h.len_pos_iff.mp hlen)
      exact ih hturn (by omega)
    case isFalse hlen =>
      obtain rfl : n = input.length := Nat.le_antisymm h.le_length (Nat.not_lt.mp (mt h.len_pos_iff.mpr hlen))
      exact ⟨items, h⟩

/-- R302: the reference encoding is a packet sequence of legal items that expand to the input. -/
theorem lzssEncode_eq_packFrom (input : List Byte) :
    ∃ items : List LzItem, (∀ item ∈ items, item.Legal) ∧ items.foldl LzItem.expand [] = input ∧
      lzssEncode input = packFrom 0 items := by
  unfold lzssEncode
  split
  case isTrue hempty => exact ⟨[], nofun, (List.length_eq_zero_iff.mp hempty).symm, rfl⟩
  case isFalse =>
    have hempty : [0x00] = packetBytes [] := by decide
    have hstart : (lzeStart input).Holds [] := ⟨[], [], rfl, by decide, rfl, hempty, fun _ => rfl⟩
    have hprimed : (lzePrime (lzeStart input)).Coded input 0 [] :=
      ⟨Nat.zero_le _, lzePrime_window (lzeStart_window input), hstart.congr (lzePrime_spec _).1, nofun, rfl⟩
    obtain ⟨items, hcoded⟩ := lzeLoop_coded input.length hprimed (Nat.le_add_left _ _)
    exact ⟨items, hcoded.legal, hcoded.expands.trans List.take_length, lzeDrain_out hcoded.holds⟩

/-! ### The reference encoding meets the contract -/

/-- Settles O34: the decoder expands the items whose packets the encoder wrote. -/
theorem lzssRoundTrip : Obligations.LzssRoundTrip := by
  intro input
  obtain ⟨items, hlegal, hexpands, hencode⟩ := lzssEncode_eq_packFrom input
  rw [hencode]
  exact lzssDecode_packFrom hlegal hexpands

/-- Settles O35, by counting the bytes of each packet (`LzeScratch.Packed`). -/
theorem encoderSizeBound : Obligations.EncoderSizeBound :=
  length_lzssEncode_le

/-- Settles O36: the encoder writes packets of legal items. -/
theorem encoderEmitsPackets : Obligations.EncoderEmitsPackets := by
  intro input
  obtain ⟨items, hlegal, -, hencode⟩ := lzssEncode_eq_packFrom input
  have hpackets := packetsWellFormed_packFrom items hlegal (Nat.zero_le 7)
  rw [List.take_zero, commandByte_nil] at hpackets
  rw [hencode]
  exact hpackets

end Sys2Proof.Machine
end

section
/-! PROOFS. The relational mode of the LZSS encoder (spec/46_lzss_encode.md R290), and what `LZE` does (R305). -/

namespace Sys2Proof.Machine

/-! ### The relational mode -/

/-- R290, parts (a) to (d). -/
theorem meetsContract_iff (input output : List Byte) :
    meetsContract input output = true ↔
      lzssDecode output input.length = { bytes := input, code := .none } ∧ packetsWellFormed 0 0 output = true ∧
        output.length ≤ worstCaseEncoded input.length ∧ (input = [] → output = []) := by
  simp only [meetsContract, Bool.and_eq_true, Bool.or_eq_true, decide_eq_true_eq, and_assoc, ne_eq,
    List.length_eq_zero_iff, imp_iff_not_or]

/-- R290: the reference encoder is one of the encoders that the contract admits. -/
theorem meetsContract_lzssEncode (input : List Byte) : meetsContract input (lzssEncode input) = true := by
  rw [meetsContract_iff]
  refine ⟨lzssRoundTrip input, encoderEmitsPackets input, length_lzssEncode_le input, ?_⟩
  rintro rfl
  rfl

/-- R290: whatever the free choice, the output meets the contract. -/
theorem meetsContract_relationalEncode (k : Nat) (input : List Byte) :
    meetsContract input (relationalEncode k input) = true := by
  unfold relationalEncode
  split
  case isTrue hmeets => exact hmeets
  case isFalse => exact meetsContract_lzssEncode input

/-- Settles O37: a choice outside the contract is not taken, and the reference output is inside it. -/
theorem relationalOutputMeetsContract : Obligations.RelationalOutputMeetsContract :=
  fun k input => (meetsContract_iff _ _).mp (meetsContract_relationalEncode k input)

/-! ### `LZE` -/

/-- R107, third column: the input is read, and the capacity is written. -/
theorem rangesValid_lze (b : Block) (memSize : Nat) :
    RangesValid .lze b memSize ↔
      RangeOk b.src.toNat b.srcLen.toNat memSize ∧ RangeOk b.dst.toNat b.dstLen.toNat memSize :=
  rangesValid_lzd b memSize

/-- R107, fourth column: the input and the output must not overlap. -/
theorem pairsApart_lze (b : Block) :
    PairsApart .lze b ↔ RangesApart b.src.toNat b.srcLen.toNat b.dst.toNat b.dstLen.toNat :=
  pairsApart_lzd b

/-- R305: where the checks pass, the encoded bytes and their number are written, and the command completes. -/
theorem exec_lze_of_ok {s : State} (hranges : RangesValid .lze s.blk s.memSize) (hapart : PairsApart .lze s.blk)
    (hfits : CapacityFits .lze s.blk) {e : List Byte} (he : s.encoded s.sourceBytes = e) :
    exec .lze s = .next
      ((s.storeBytes s.blk.dst.toNat e).setOutLen (BitVec.ofNat 32 e.length)).afterEncode.complete := by
  have hok : operandError .lze s.blk s.memSize = none := by
    rw [operandError_eq, if_neg (not_not.mpr hranges), if_neg (not_not.mpr hapart), if_neg (not_not.mpr hfits)]
  rw [exec_of_ok hok, ← he]
  rfl

theorem State.encoded_of_reference {s : State} (h : s.encMode = .reference) (input : List Byte) :
    s.encoded input = lzssEncode input := by
  rw [State.encoded, h]

theorem State.encoded_of_relational {s : State} (h : s.encMode = .relational) (input : List Byte) :
    s.encoded input = relationalEncode s.draws input := by
  rw [State.encoded, h]

theorem State.afterEncode_of_reference {s : State} (h : s.encMode = .reference) : s.afterEncode = s := by
  rw [State.afterEncode, h]

theorem State.afterEncode_of_relational {s : State} (h : s.encMode = .relational) :
    s.afterEncode = { s with draws := s.draws + 1 } := by
  rw [State.afterEncode, h]

/-- Settles O17: R144's checks are those of the statement, in its order, and `ENC_MODE` selects what is written. -/
theorem lzeEncodesToDestination : Obligations.LzeEncodesToDestination := by
  intro s input srcOk dstOk apart fits after
  have hranges : RangesValid .lze s.blk s.memSize ↔ srcOk ∧ dstOk := rangesValid_lze s.blk s.memSize
  have hapart : PairsApart .lze s.blk ↔ apart := pairsApart_lze s.blk
  have hcap : CapacityFits .lze s.blk ↔ fits := ⟨fun h => h rfl, fun h _ => h⟩
  have hencoded (hsrc : srcOk) (hdst : dstOk) (ha : apart) (hf : fits) {e : List Byte} (he : s.encoded input = e) :=
    exec_lze_of_ok (hranges.mpr ⟨hsrc, hdst⟩) (hapart.mpr ha) (hcap.mpr hf) he
  obtain ⟨hrange, hoverlap, hcapacity, -⟩ := operandChecksInOrder .lze s
  refine ⟨fun ⟨hsrc, hdst, ha, hf, hmode⟩ => ?_, fun ⟨hsrc, hdst, ha, hf, hmode⟩ => ?_,
    fun h => hrange (mt hranges.mp h),
    fun ⟨hsrc, hdst, ha⟩ => hoverlap (hranges.mpr ⟨hsrc, hdst⟩) (mt hapart.mp ha),
    fun ⟨hsrc, hdst, ha, hf⟩ => hcapacity (hranges.mpr ⟨hsrc, hdst⟩) (hapart.mpr ha) (mt hcap.mp hf)⟩
  · rw [hencoded hsrc hdst ha hf (State.encoded_of_reference hmode input),
      State.afterEncode_of_reference (s := (s.storeBytes _ _).setOutLen _) hmode]
    rfl
  · rw [hencoded hsrc hdst ha hf (State.encoded_of_relational hmode input),
      State.afterEncode_of_relational (s := (s.storeBytes _ _).setOutLen _) hmode]
    rfl

end Sys2Proof.Machine
end

section
/-! PROOFS. Illegal command words (spec/60_exceptions.md R331, spec/30_encoding.md R104): the fields of a word decide
whether it is one, and executing it only completes. -/

namespace Sys2Proof.Machine

/-- R104, negated: a defined `OP`, zero reserved bits, and `RAND` or `GAME` only with `OP = 0x05`. -/
abbrev LegalFields (w : Word) : Prop :=
  w.toNat % 2 ^ 8 ≤ 0x08 ∧ w.toNat / 2 ^ 10 = 0 ∧
    (w.getLsbD 8 = true ∨ w.getLsbD 9 = true → w.toNat % 2 ^ 8 = 0x05)

theorem legalFields_encode (i : Instr) : LegalFields (encode i) := by
  cases i <;> decide

/-- R101: the four fields make up the word, so legal ones leave the twelve words of the opcode table. -/
theorem exists_encode_of_legalFields {w : Word} (h : LegalFields w) : ∃ i, w = encode i := by
  obtain ⟨hop, hreserved, hflags⟩ := h
  have hbit (k : Nat) : w.getLsbD k = true ↔ w.toNat / 2 ^ k % 2 = 1 := by
    simp [BitVec.getLsbD, Nat.testBit_eq_decide_div_mod_eq]
  rw [hbit, hbit] at hflags
  have hmem : w ∈ [Instr.nop, .crc32, .seed, .next, .fill, .keygenAdk, .keygenAdkR, .keygenDng, .keygenDngR, .obf,
      .lzd, .lze].map encode := by
    obtain ⟨-, htable⟩ := wordSelectsAtMostOneRow
    rw [htable]
    simp only [List.mem_cons, List.not_mem_nil, or_false, ← BitVec.toNat_inj, BitVec.reduceToNat]
    omega
  obtain ⟨i, -, hi⟩ := List.mem_map.mp hmem
  exact ⟨i, hi.symm⟩

/-- R103, R331: a word is illegal exactly when its fields are. -/
theorem decode_error_iff (w : Word) : (∃ e, decode w = .error e) ↔ ¬ LegalFields w := by
  cases hd : decode w with
  | error e =>
    refine iff_of_true ⟨e, rfl⟩ fun hlegal => ?_
    obtain ⟨i, rfl⟩ := exists_encode_of_legalFields hlegal
    cases (decode_encode i).symm.trans hd
  | ok i =>
    obtain rfl := eq_encode_of_decode hd
    exact iff_of_false (fun ⟨_, he⟩ => nomatch he) (not_not.mpr (legalFields_encode i))

/-- R331: an illegal word completes with `ILLEGAL_CMD` and changes nothing else. -/
theorem State.execute_of_decode_error {w : Word} {e : DecodeError} (h : decode w = .error e) (s : State) :
    s.execute w = .next (s.failed .illegalCmd) := by
  simp [State.execute, h, State.raiseError_eq_failed]

/-- Settles O3: the illegal fields are the negation of `LegalFields`, class by class. -/
theorem illegalWordsOnlyComplete : Obligations.IllegalWordsOnlyComplete := by
  refine ⟨fun w => (decode_error_iff w).trans ?_, fun s w e h => s.execute_of_decode_error h⟩
  simp only [LegalFields, Classical.not_and_iff_not_or_not, Nat.not_le, Classical.not_imp,
    Nat.lt_iff_add_one_le, Nat.reduceAdd, ne_eq]

end Sys2Proof.Machine
end

section
/-! PROOFS. Reset and hazards (spec/70_reset_and_hazards.md): what a reset leaves in the registers and in buffer
memory, the machine at rest, and the generator's fixed point. -/

namespace Sys2Proof.Machine

/-! ### Nothing to do -/

/-- Settles O54: with no instance pending, none comes into focus. -/
theorem idleMachineRests : Obligations.IdleMachineRests := by
  intro s hscript hidle
  have hfocus : s.focus Block.isPending = none :=
    State.focus_eq_none.mpr fun b hb => by simp [Block.isPending, hidle b hb]
  rcases step_cases s with ⟨-, hs⟩ | ⟨m, rest, hcons, -⟩
  · rw [hs, State.idleStep, hfocus]
  · cases hscript.symm.trans hcons

/-! ### The fixed point of the generator -/

/-- Settles O28, by induction on the outputs drawn: each leaves the state 0x7FFFFFFF (O27). -/
theorem fixedPointFillsWithOnes : Obligations.FixedPointFillsWithOnes := by
  obtain ⟨-, -, hfixed⟩ := generatorIsParkMiller
  intro n
  induction n with
  | zero => exact ⟨rfl, rfl⟩
  | succ n ih =>
    obtain ⟨hfill, hafter⟩ := ih
    constructor
    · rw [prngFill, hfixed, hfill, List.replicate_succ]
      rfl
    · rw [prngAfter, hfixed, hafter]

/-! ### What a reset leaves in the registers -/

/-- R370: a reset move of the instance in focus resets it. -/
theorem step_resetInstance {s : State} {rest : List Move} (hscript : s.script = .resetInstance s.blk.regBase :: rest) :
    step s = .next ({ s with script := rest } : State).resetFocus := by
  have hfocus := State.focus_self (s := { s with script := rest }) s.blk.isAt_self
  rw [step_of_script_cons hscript, State.move, State.resetAt, hfocus]

theorem State.resetFocus_script (s : State) : s.resetFocus.script = s.script := by
  rw [State.resetFocus, State.discardRanges_frame]

/-- Settles O50: every instance of `State.resetWith`, and the one in focus after a reset move, is `Block.reset`
of its window. -/
theorem resetValues : Obligations.ResetValues := by
  refine ⟨fun p b hb => ?_, ⟨Config.Params.default, rfl⟩, fun s rest hscript => ?_⟩
  · rw [State.resetWith_instances] at hb
    obtain ⟨base, -, rfl⟩ := List.mem_map.mp hb
    exact ⟨base, rfl⟩
  · obtain ⟨-, -, -, hpeers⟩ := ({ s with script := rest } : State).resetFocus_samePlatform
    exact ⟨_, step_resetInstance hscript, State.resetFocus_script _, hpeers, rfl⟩

/-! ### What a reset leaves in buffer memory -/

/-- Every byte of a range that takes free values does, as far as it exists (R371). -/
theorem Memory.read_havoc_inside {m : Memory} (hm : m.Wf) {a n size x : Nat} (k : Nat) (hlow : a ≤ x)
    (hhigh : x < a + n) (hexists : x < size) : ∃ j, (m.havoc a n size k).read x = Config.freeByte j := by
  induction n generalizing m a k with
  | zero => omega
  | succ n ih =>
    rw [Memory.havoc, if_pos (by omega)]
    by_cases hx : x = a
    · subst hx
      exact ⟨k, by rw [Memory.read_havoc_other _ _ _ _ _ _ (by omega), Memory.read_write_same m hm]⟩
    · exact ih (Memory.write_wf hm _ _) (k + 1) (by omega) (by omega)

/-- The byte at `x` is one of the free values of R371. -/
def State.ReadsFree (s : State) (x : Nat) : Prop :=
  ∃ k, s.mem.read x = Config.freeByte k

theorem State.discardRange_wf {s : State} (h : s.mem.Wf) (r : OperandRange) : (s.discardRange r).mem.Wf := by
  unfold State.discardRange
  split
  · exact Memory.havoc_wf h _ _ _ _
  · exact h

theorem State.discardRange_memSize (s : State) (r : OperandRange) : (s.discardRange r).memSize = s.memSize := by
  rw [State.discardRange_frame]

/-- R372: outside what the range writes, a discard leaves memory alone. -/
theorem State.discardRange_read_outside {s : State} {r : OperandRange} {x : Nat}
    (h : r.written = true → OutsideBytes r.addr r.len x) : (s.discardRange r).mem.read x = s.mem.read x := by
  unfold State.discardRange
  split
  · rename_i hw
    exact Memory.read_havoc_other _ _ _ _ _ _ (h hw)
  · rfl

/-- R371: inside what the range writes, a discard leaves a free value. -/
theorem State.discardRange_readsFree {s : State} (hwf : s.mem.Wf) {r : OperandRange} {x : Nat}
    (hw : r.written = true) (hlow : r.addr ≤ x) (hhigh : x < r.addr + r.len) (hexists : x < s.memSize) :
    (s.discardRange r).ReadsFree x := by
  unfold State.discardRange
  rw [if_pos hw]
  exact Memory.read_havoc_inside hwf s.draws hlow hhigh hexists

/-- A free byte is left alone or drawn again. -/
theorem State.ReadsFree.discardRange {s : State} {x : Nat} (h : s.ReadsFree x) (hwf : s.mem.Wf)
    (hexists : x < s.memSize) (r : OperandRange) : (s.discardRange r).ReadsFree x := by
  by_cases hout : r.written = true → OutsideBytes r.addr r.len x
  · obtain ⟨k, hk⟩ := h
    exact ⟨k, (State.discardRange_read_outside hout).trans hk⟩
  · obtain ⟨hw, hin⟩ := Classical.not_imp.mp hout
    exact State.discardRange_readsFree hwf hw (by omega) (by omega) hexists

theorem State.discardRanges_read_outside {rs : List OperandRange} {x : Nat}
    (h : ∀ r ∈ rs, r.written = true → OutsideBytes r.addr r.len x) (s : State) :
    (rs.foldl State.discardRange s).mem.read x = s.mem.read x :=
  List.foldlRecOn rs _ (motive := fun t : State => t.mem.read x = s.mem.read x) rfl
    fun _ ht r hr => (State.discardRange_read_outside (h r hr)).trans ht

/-- A byte that is free already, or that some discarded range writes, is free after the discards. -/
theorem State.discardRanges_readsFree {rs : List OperandRange} {s : State} {x : Nat} (hwf : s.mem.Wf)
    (hexists : x < s.memSize)
    (h : s.ReadsFree x ∨ ∃ r ∈ rs, r.written = true ∧ r.addr ≤ x ∧ x < r.addr + r.len) :
    (rs.foldl State.discardRange s).ReadsFree x := by
  induction rs generalizing s with
  | nil => simpa using h
  | cons r rs ih =>
    refine ih (State.discardRange_wf hwf r) (s.discardRange_memSize r ▸ hexists) ?_
    rcases h with hfree | ⟨q, hq, hw, hlow, hhigh⟩
    · exact .inl (hfree.discardRange hwf hexists r)
    · rcases List.mem_cons.mp hq with rfl | hq
      · exact .inl (State.discardRange_readsFree hwf hw hlow hhigh hexists)
      · exact .inr ⟨q, hq, hw, hlow, hhigh⟩

/-- A reset changes memory only by the discard of the pending command's ranges (R371, R372). -/
theorem State.resetFocus_mem (s : State) :
    s.resetFocus.mem = (s.blk.pendingRanges.foldl State.discardRange s).mem := rfl

theorem State.resetFocus_mem_of_no_ranges {s : State} (h : s.blk.pendingRanges = []) : s.resetFocus.mem = s.mem := by
  rw [State.resetFocus_mem, h, List.foldl_nil]

/-- R331: an illegal word has no operand range. -/
theorem Block.pendingRanges_of_illegal {b : Block} {w : Word} {e : DecodeError} (hp : b.pending = some w)
    (hd : decode w = .error e) : b.pendingRanges = [] := by
  simp [Block.pendingRanges, hp, hd]

/-- Settles O51: the reset discards the pending ranges, of which only a legal command has any. -/
theorem resetAndMemory : Obligations.ResetAndMemory := by
  intro s t rest hwf hscript hstep
  obtain rfl : ({ s with script := rest } : State).resetFocus = t :=
    Host.Outcome.next.inj ((step_resetInstance hscript).symm.trans hstep)
  refine ⟨fun hp => ?_, fun w e hp hd => ?_, fun w i hp hd x => ⟨fun hout => ?_, fun r hr hw hlow hhigh hx => ?_⟩⟩
  · exact State.resetFocus_mem_of_no_ranges (s := { s with script := rest }) (Block.pendingRanges_of_none hp)
  · exact State.resetFocus_mem_of_no_ranges (s := { s with script := rest }) (Block.pendingRanges_of_illegal hp hd)
  · rw [State.resetFocus_mem, Block.pendingRanges_of_pending hp hd]
    exact State.discardRanges_read_outside hout _
  · rw [State.resetFocus_mem, Block.pendingRanges_of_pending hp hd]
    exact State.discardRanges_readsFree (s := { s with script := rest }) hwf hx (.inr ⟨r, hr, hw, hlow, hhigh⟩)

end Sys2Proof.Machine
end
